-- ==== Sys2Proof/Word.lean ====
section
/-! DEFINITION. The widths SEED-CORE computes in (rule R4: every value is unsigned, bit 0 is the least significant). -/

namespace Sys2Proof

/-- One byte lane, a table index, an S-box entry. -/
abbrev Byte := BitVec 8

/-- One 32-bit word: a working register, a round key, a table entry, a command word (rule R3, WORD_BITS). -/
abbrev Word := BitVec 32

/-- The 128-bit value of the `din` and `dout` buses (rule R50). -/
abbrev Bus := BitVec 128

/-- A length field of the command word (rules R54, R55; rule R3, LEN_FIELD_BITS). -/
abbrev Len := BitVec 12

/-- A byte string of exactly one block or one key, byte 0 first (rules R6, R42, R43). -/
abbrev Block := Vector Byte 16

/-- The round-key array `RK`, 32 words (rules R19, R30). -/
abbrev RoundKeys := Vector Word 32

end Sys2Proof
end

