-- ==== Sys2Proof/Syntax.lean ====
section
/-! DEFINITION. The commands of SEED-CORE, one constructor per row of spec/opcode_table.json (rule R56), and the lines of the
assembler syntax of rule R59. -/

namespace Sys2Proof

/-- A command as decoded from the command word (rules R54, R56, R58). The 128-bit operand travels on `din`, beside the
word (rule R51), and is no part of it. -/
inductive Instr where
  /-- KEYLD (rule R75): `len` is `LEN_A`, the length of the host's key in bytes. -/
  | keyld (len : Len)
  /-- ENC (rule R85): `slen` is `LEN_A`, the source length; `dlen` is `LEN_B`, the destination capacity. -/
  | enc (slen dlen : Len)
  /-- DEC (rule R90): the fields of ENC. -/
  | dec (slen dlen : Len)
  /-- BLKSZ (rule R100). -/
  | blksz
  /-- CLR (rule R102). -/
  | clr
  deriving DecidableEq, Repr

/-- What the host hands over when it presents a command: the pair (`cmd`, `din`) of rule R51. -/
structure Command where
  word : Word
  din : Bus
  deriving DecidableEq, Repr

/-- One line of the assembler syntax (rule R59): the lengths are the host's true lengths, of any size; a 16-byte operand
is given byte 0 first. -/
inductive AsmLine where
  | keyld (len : Nat) (key : Block)
  | enc (slen dlen : Nat) (block : Block)
  | dec (slen dlen : Nat) (block : Block)
  | blksz
  | clr
  /-- `.word w`: the word as given, to write a reserved encoding. -/
  | word (w : Word)
  /-- `NEWCIPHER key`. -/
  | newCipher (key : Block)
  /-- `ENCRYPT block`. -/
  | encrypt (block : Block)
  /-- `DECRYPT block`. -/
  | decrypt (block : Block)
  deriving DecidableEq, Repr

end Sys2Proof
end

