-- ==== Sys2Proof/Decode.lean ====
section
/-! DEFINITION. Decoding of the 32-bit command word (rules R54 to R58), total, with every reserved encoding rejected by name,
and the encoder. -/

namespace Sys2Proof

/-- Why a word is a reserved encoding, one name per case of rule R57. -/
inductive Reserved where
  /-- `RSV` (bits 27:24) is not 0. -/
  | rsvNotZero
  /-- `OP` (bits 31:28) is 0x0 or 0x6 to 0xF. -/
  | unknownOp
  /-- KEYLD with `LEN_B` not 0. -/
  | keyldLenB
  /-- BLKSZ with `LEN_A` or `LEN_B` not 0. -/
  | blkszLength
  /-- CLR with `LEN_A` or `LEN_B` not 0. -/
  | clrLength
  deriving DecidableEq, Repr

/-- The result of decoding: a command of rule R56 or a reserved encoding of rule R57. -/
inductive Decoded where
  | command (i : Instr)
  | reserved (why : Reserved)
  deriving DecidableEq, Repr

/-- `OP`, bits 31:28 of the command word (rule R54). -/
def fieldOp (w : Word) : BitVec 4 := w.extractLsb' 28 4

/-- `RSV`, bits 27:24 of the command word (rule R54). -/
def fieldRsv (w : Word) : BitVec 4 := w.extractLsb' 24 4

/-- `LEN_B`, bits 23:12 of the command word (rule R54). -/
def fieldLenB (w : Word) : Len := w.extractLsb' 12 12

/-- `LEN_A`, bits 11:0 of the command word (rule R54). -/
def fieldLenA (w : Word) : Len := w.extractLsb' 0 12

/-- The decoder of rule R58, case by case. -/
def decode (w : Word) : Decoded :=
  if fieldRsv w ≠ 0#4 then .reserved .rsvNotZero
  else if fieldOp w = 0x1#4 then
    if fieldLenB w = 0#12 then .command (.keyld (fieldLenA w)) else .reserved .keyldLenB
  else if fieldOp w = 0x2#4 then .command (.enc (fieldLenA w) (fieldLenB w))
  else if fieldOp w = 0x3#4 then .command (.dec (fieldLenA w) (fieldLenB w))
  else if fieldOp w = 0x4#4 then
    if w.extractLsb' 0 24 = 0#24 then .command .blksz else .reserved .blkszLength
  else if fieldOp w = 0x5#4 then
    if w.extractLsb' 0 24 = 0#24 then .command .clr else .reserved .clrLength
  else .reserved .unknownOp

/-- A command word laid out by the format of rule R54, `RSV` 0. -/
def packWord (op : BitVec 4) (lenB lenA : Len) : Word :=
  op ++ 0#4 ++ lenB ++ lenA

/-- The encoder: the word of each command (rules R54, R56; spec/opcode_table.json). -/
def encode : Instr → Word
  | .keyld len => packWord 0x1#4 0#12 len
  | .enc slen dlen => packWord 0x2#4 dlen slen
  | .dec slen dlen => packWord 0x3#4 dlen slen
  | .blksz => packWord 0x4#4 0#12 0#12
  | .clr => packWord 0x5#4 0#12 0#12

/-- A row of the opcode map (rule R56): its mnemonic, `match` and `mask`. -/
structure OpcodeRow where
  mnemonic : String
  pattern : Word
  mask : Word
  deriving DecidableEq, Repr

/-- The opcode map of rule R56, in its order. -/
def opcodeRows : List OpcodeRow :=
  [⟨"KEYLD", 0x10000000#32, 0xFFFFF000#32⟩,
   ⟨"ENC", 0x20000000#32, 0xFF000000#32⟩,
   ⟨"DEC", 0x30000000#32, 0xFF000000#32⟩,
   ⟨"BLKSZ", 0x40000000#32, 0xFFFFFFFF#32⟩,
   ⟨"CLR", 0x50000000#32, 0xFFFFFFFF#32⟩]

/-- "A word `w` selects the row for which `w & mask = match`" (rule R56). -/
def OpcodeRow.selects (r : OpcodeRow) (w : Word) : Bool :=
  w &&& r.mask == r.pattern

/-- The mnemonic of a command in the opcode map. -/
def Instr.mnemonic : Instr → String
  | .keyld _ => "KEYLD"
  | .enc _ _ => "ENC"
  | .dec _ _ => "DEC"
  | .blksz => "BLKSZ"
  | .clr => "CLR"

/-- The host's question about the opcode table: what the decoder gives for the one-word command whose bits are `w`, bit 0
the least significant; the bits above `nbits` are 0. -/
def decodeTableWord (nbits w : Nat) : Option Instr :=
  match decode (BitVec.ofNat 32 (w % 2 ^ nbits)) with
  | .command i => some i
  | .reserved _ => none

end Sys2Proof
end

