-- ==== Sys2Proof/Machine/Operands.lean ====
section
/-! DEFINITION. Operand forms: byte order (rules R6, R42, R43), bus lanes (rule R44), the two 64-bit byte rotates (rule R5),
byte lanes of a word (rule R4), and the indices of the round-key array (rules R87, R106). -/

namespace Sys2Proof.Machine

/-- `be32(b, k)`: the big-endian word at byte offset `k` (rule R6). -/
def be32 (b : Block) (k : Nat) (h : k + 3 < 16 := by decide) : Word :=
  (b[k].setWidth 32) <<< 24 ||| (b[k + 1].setWidth 32) <<< 16 ||| (b[k + 2].setWidth 32) <<< 8 ||| b[k + 3].setWidth 32

/-- Byte lane `n` of a word, lane 0 the least significant (rule R4). -/
def lane (x : Word) (n : Nat) : Byte := x.extractLsb' (8 * n) 8

/-- The block of four words, each written by `bytes_be32` (rules R6, R42). -/
def bytesOfWords (w0 w1 w2 w3 : Word) : Block :=
  #v[lane w0 3, lane w0 2, lane w0 1, lane w0 0,
     lane w1 3, lane w1 2, lane w1 1, lane w1 0,
     lane w2 3, lane w2 2, lane w2 1, lane w2 0,
     lane w3 3, lane w3 2, lane w3 1, lane w3 0]

/-- Byte `k` of the buffer on the bus, bits `127 - 8k : 120 - 8k` (rule R44). -/
def busByte (x : Bus) (k : Nat) : Byte := x.extractLsb' (120 - 8 * k) 8

/-- The sixteen bytes carried by a bus (rule R44). -/
def bytesOfBus (x : Bus) : Block :=
  #v[busByte x 0, busByte x 1, busByte x 2, busByte x 3, busByte x 4, busByte x 5, busByte x 6, busByte x 7,
     busByte x 8, busByte x 9, busByte x 10, busByte x 11, busByte x 12, busByte x 13, busByte x 14, busByte x 15]

/-- The bus that carries sixteen bytes, byte 0 in the most significant lane (rule R44). -/
def busOfBytes (b : Block) : Bus :=
  b[0] ++ b[1] ++ b[2] ++ b[3] ++ b[4] ++ b[5] ++ b[6] ++ b[7] ++
    b[8] ++ b[9] ++ b[10] ++ b[11] ++ b[12] ++ b[13] ++ b[14] ++ b[15]

/-- Word 0 of a bus, `din[127:96]` (rule R44). -/
def busWord0 (x : Bus) : Word := x.extractLsb' 96 32

/-- Word 1 of a bus, `din[95:64]` (rule R44). -/
def busWord1 (x : Bus) : Word := x.extractLsb' 64 32

/-- Word 2 of a bus, `din[63:32]` (rule R44). -/
def busWord2 (x : Bus) : Word := x.extractLsb' 32 32

/-- Word 3 of a bus, `din[31:0]` (rule R44). -/
def busWord3 (x : Bus) : Word := x.extractLsb' 0 32

/-- `ror64_8` (rule R5). -/
def ror64by8 (t : BitVec 64) : BitVec 64 := t >>> 8 ||| (t &&& 0xFF) <<< 56

/-- `rol64_8` (rule R5). -/
def rol64by8 (t : BitVec 64) : BitVec 64 := t <<< 8 ||| t >>> 56

/-- The 5-bit index `2i` of the round-key array (rule R106). -/
def rkEven (i : BitVec 4) : BitVec 5 := i ++ 0#1

/-- The 5-bit index `2i + 1` of the round-key array (rule R106). -/
def rkOdd (i : BitVec 4) : BitVec 5 := i ++ 1#1

/-- `RK[j]` (rules R7, R46): every 5-bit index is in range (rule R30). -/
def rkRead (rk : RoundKeys) (j : BitVec 5) : Word := rk[j.toNat]'j.isLt

/-- `RK[j] <- v` (rules R7, R46). -/
def rkWrite (rk : RoundKeys) (j : BitVec 5) (v : Word) : RoundKeys := rk.set j.toNat v j.isLt

end Sys2Proof.Machine
end

