-- ==== Sys2Proof/Machine/Rom.lean ====
section
/-! DEFINITION. The read-only tables: `S1`, `S2`, the masks, the linear mixer, `SS0` to `SS3`, `KC` (rules R30 to R41, R65, R66).
None of them is state (rules R10, R31): they are constants, the same before and after every reset. -/

namespace Sys2Proof.Machine

/-- The byte table `S1` of rule R33, row by row as printed: sixteen rows of sixteen entries. -/
def s1Rows : List (List Byte) :=
  [[0xA9, 0x85, 0xD6, 0xD3, 0x54, 0x1D, 0xAC, 0x25, 0x5D, 0x43, 0x18, 0x1E, 0x51, 0xFC, 0xCA, 0x63],
   [0x28, 0x44, 0x20, 0x9D, 0xE0, 0xE2, 0xC8, 0x17, 0xA5, 0x8F, 0x03, 0x7B, 0xBB, 0x13, 0xD2, 0xEE],
   [0x70, 0x8C, 0x3F, 0xA8, 0x32, 0xDD, 0xF6, 0x74, 0xEC, 0x95, 0x0B, 0x57, 0x5C, 0x5B, 0xBD, 0x01],
   [0x24, 0x1C, 0x73, 0x98, 0x10, 0xCC, 0xF2, 0xD9, 0x2C, 0xE7, 0x72, 0x83, 0x9B, 0xD1, 0x86, 0xC9],
   [0x60, 0x50, 0xA3, 0xEB, 0x0D, 0xB6, 0x9E, 0x4F, 0xB7, 0x5A, 0xC6, 0x78, 0xA6, 0x12, 0xAF, 0xD5],
   [0x61, 0xC3, 0xB4, 0x41, 0x52, 0x7D, 0x8D, 0x08, 0x1F, 0x99, 0x00, 0x19, 0x04, 0x53, 0xF7, 0xE1],
   [0xFD, 0x76, 0x2F, 0x27, 0xB0, 0x8B, 0x0E, 0xAB, 0xA2, 0x6E, 0x93, 0x4D, 0x69, 0x7C, 0x09, 0x0A],
   [0xBF, 0xEF, 0xF3, 0xC5, 0x87, 0x14, 0xFE, 0x64, 0xDE, 0x2E, 0x4B, 0x1A, 0x06, 0x21, 0x6B, 0x66]] ++
  [[0x02, 0xF5, 0x92, 0x8A, 0x0C, 0xB3, 0x7E, 0xD0, 0x7A, 0x47, 0x96, 0xE5, 0x26, 0x80, 0xAD, 0xDF],
   [0xA1, 0x30, 0x37, 0xAE, 0x36, 0x15, 0x22, 0x38, 0xF4, 0xA7, 0x45, 0x4C, 0x81, 0xE9, 0x84, 0x97],
   [0x35, 0xCB, 0xCE, 0x3C, 0x71, 0x11, 0xC7, 0x89, 0x75, 0xFB, 0xDA, 0xF8, 0x94, 0x59, 0x82, 0xC4],
   [0xFF, 0x49, 0x39, 0x67, 0xC0, 0xCF, 0xD7, 0xB8, 0x0F, 0x8E, 0x42, 0x23, 0x91, 0x6C, 0xDB, 0xA4],
   [0x34, 0xF1, 0x48, 0xC2, 0x6F, 0x3D, 0x2D, 0x40, 0xBE, 0x3E, 0xBC, 0xC1, 0xAA, 0xBA, 0x4E, 0x55],
   [0x3B, 0xDC, 0x68, 0x7F, 0x9C, 0xD8, 0x4A, 0x56, 0x77, 0xA0, 0xED, 0x46, 0xB5, 0x2B, 0x65, 0xFA],
   [0xE3, 0xB9, 0xB1, 0x9F, 0x5E, 0xF9, 0xE6, 0xB2, 0x31, 0xEA, 0x6D, 0x5F, 0xE4, 0xF0, 0xCD, 0x88],
   [0x16, 0x3A, 0x58, 0xD4, 0x62, 0x29, 0x07, 0x33, 0xE8, 0x1B, 0x05, 0x79, 0x90, 0x6A, 0x2A, 0x9A]]

/-- The byte table `S2` of rule R34, laid out as `s1Rows`. -/
def s2Rows : List (List Byte) :=
  [[0x38, 0xE8, 0x2D, 0xA6, 0xCF, 0xDE, 0xB3, 0xB8, 0xAF, 0x60, 0x55, 0xC7, 0x44, 0x6F, 0x6B, 0x5B],
   [0xC3, 0x62, 0x33, 0xB5, 0x29, 0xA0, 0xE2, 0xA7, 0xD3, 0x91, 0x11, 0x06, 0x1C, 0xBC, 0x36, 0x4B],
   [0xEF, 0x88, 0x6C, 0xA8, 0x17, 0xC4, 0x16, 0xF4, 0xC2, 0x45, 0xE1, 0xD6, 0x3F, 0x3D, 0x8E, 0x98],
   [0x28, 0x4E, 0xF6, 0x3E, 0xA5, 0xF9, 0x0D, 0xDF, 0xD8, 0x2B, 0x66, 0x7A, 0x27, 0x2F, 0xF1, 0x72],
   [0x42, 0xD4, 0x41, 0xC0, 0x73, 0x67, 0xAC, 0x8B, 0xF7, 0xAD, 0x80, 0x1F, 0xCA, 0x2C, 0xAA, 0x34],
   [0xD2, 0x0B, 0xEE, 0xE9, 0x5D, 0x94, 0x18, 0xF8, 0x57, 0xAE, 0x08, 0xC5, 0x13, 0xCD, 0x86, 0xB9],
   [0xFF, 0x7D, 0xC1, 0x31, 0xF5, 0x8A, 0x6A, 0xB1, 0xD1, 0x20, 0xD7, 0x02, 0x22, 0x04, 0x68, 0x71],
   [0x07, 0xDB, 0x9D, 0x99, 0x61, 0xBE, 0xE6, 0x59, 0xDD, 0x51, 0x90, 0xDC, 0x9A, 0xA3, 0xAB, 0xD0]] ++
  [[0x81, 0x0F, 0x47, 0x1A, 0xE3, 0xEC, 0x8D, 0xBF, 0x96, 0x7B, 0x5C, 0xA2, 0xA1, 0x63, 0x23, 0x4D],
   [0xC8, 0x9E, 0x9C, 0x3A, 0x0C, 0x2E, 0xBA, 0x6E, 0x9F, 0x5A, 0xF2, 0x92, 0xF3, 0x49, 0x78, 0xCC],
   [0x15, 0xFB, 0x70, 0x75, 0x7F, 0x35, 0x10, 0x03, 0x64, 0x6D, 0xC6, 0x74, 0xD5, 0xB4, 0xEA, 0x09],
   [0x76, 0x19, 0xFE, 0x40, 0x12, 0xE0, 0xBD, 0x05, 0xFA, 0x01, 0xF0, 0x2A, 0x5E, 0xA9, 0x56, 0x43],
   [0x85, 0x14, 0x89, 0x9B, 0xB0, 0xE5, 0x48, 0x79, 0x97, 0xFC, 0x1E, 0x82, 0x21, 0x8C, 0x1B, 0x5F],
   [0x77, 0x54, 0xB2, 0x1D, 0x25, 0x4F, 0x00, 0x46, 0xED, 0x58, 0x52, 0xEB, 0x7E, 0xDA, 0xC9, 0xFD],
   [0x30, 0x95, 0x65, 0x3C, 0xB6, 0xE4, 0xBB, 0x7C, 0x0E, 0x50, 0x39, 0x26, 0x32, 0x84, 0x69, 0x93],
   [0x37, 0xE7, 0x24, 0xA4, 0xCB, 0x53, 0x0A, 0x87, 0xD9, 0x4C, 0x83, 0x8F, 0xCE, 0x3B, 0x4A, 0xB7]]

/-- The entry of a byte table at index `16 * row + column` (rule R33). -/
def byteAt (rows : List (List Byte)) (x : Byte) : Byte :=
  (rows.getD (x.toNat / 16) []).getD (x.toNat % 16) 0

/-- The S-box `S1` (rule R33). -/
def s1 (x : Byte) : Byte := byteAt s1Rows x

/-- The S-box `S2` (rule R34). -/
def s2 (x : Byte) : Byte := byteAt s2Rows x

/-- The mask constants `m0` to `m3` of the linear mixer (rule R35); the index is taken modulo 4 (rule R66). -/
def maskAt (k : Nat) : Byte :=
  match k % 4 with
  | 0 => 0xFC
  | 1 => 0xF3
  | 2 => 0xCF
  | _ => 0x3F

/-- MIX, the linear mixer (rule R66): byte lane `n` of the result is `s & m[(n + j) mod 4]`. -/
def mix (s : Byte) (j : Nat) : Word :=
  (s &&& maskAt (3 + j)) ++ (s &&& maskAt (2 + j)) ++ (s &&& maskAt (1 + j)) ++ (s &&& maskAt (0 + j))

/-- The word table `SS0` (rule R36, its own four masks). -/
def ss0 (x : Byte) : Word :=
  (s1 x &&& 0x3F).setWidth 32 <<< 24 ||| (s1 x &&& 0xCF).setWidth 32 <<< 16 |||
    (s1 x &&& 0xF3).setWidth 32 <<< 8 ||| (s1 x &&& 0xFC).setWidth 32

/-- The word table `SS1` (rule R36). -/
def ss1 (x : Byte) : Word :=
  (s2 x &&& 0xFC).setWidth 32 <<< 24 ||| (s2 x &&& 0x3F).setWidth 32 <<< 16 |||
    (s2 x &&& 0xCF).setWidth 32 <<< 8 ||| (s2 x &&& 0xF3).setWidth 32

/-- The word table `SS2` (rule R36). -/
def ss2 (x : Byte) : Word :=
  (s1 x &&& 0xF3).setWidth 32 <<< 24 ||| (s1 x &&& 0xFC).setWidth 32 <<< 16 |||
    (s1 x &&& 0x3F).setWidth 32 <<< 8 ||| (s1 x &&& 0xCF).setWidth 32

/-- The word table `SS3` (rule R36). -/
def ss3 (x : Byte) : Word :=
  (s2 x &&& 0xCF).setWidth 32 <<< 24 ||| (s2 x &&& 0xF3).setWidth 32 <<< 16 |||
    (s2 x &&& 0xFC).setWidth 32 <<< 8 ||| (s2 x &&& 0x3F).setWidth 32

/-- SUB, the substitution lookup (rule R65): the entry `x` of table `SSj`. -/
def sub (j : Fin 4) (x : Byte) : Word :=
  match j with
  | 0 => ss0 x
  | 1 => ss1 x
  | 2 => ss2 x
  | 3 => ss3 x

/-- `rol32` of rule R41. -/
def rol32 (v : Word) (i : Nat) : Word :=
  if i = 0 then v else v <<< i ||| v >>> (32 - i)

/-- The round-constant ROM `KC` (rule R41). -/
def kc (i : BitVec 4) : Word := rol32 0x9E3779B9 i.toNat

end Sys2Proof.Machine
end

