-- ==== Sys2Proof/Config.lean ====
section
/-! DEFINITION. What an implementation fixes (the OPEN parameters of rule R3, all four) and the one free value of the model. -/

namespace Sys2Proof

/-- The level of `rst` that asserts it, the first part of RESET_STYLE (rules R3, R130). -/
inductive Polarity where
  | activeHigh
  | activeLow
  deriving DecidableEq, Repr

/-- Whether `rst` is sampled with the clock, the second part of RESET_STYLE (rules R3, R130). -/
inductive Synchrony where
  | synchronous
  | asynchronous
  deriving DecidableEq, Repr

/-- RESET_STYLE (rule R3): "polarity, synchronous or asynchronous". -/
structure ResetStyle where
  polarity : Polarity
  synchrony : Synchrony
  deriving DecidableEq, Repr

/-- The ports HOST_BUS_MAP attaches: the command port, `din`, the response port, `dout` and `STATUS` (rules R32, R50). -/
inductive HostPort where
  | cmdValid
  | cmdReady
  | cmd
  | din
  | rspValid
  | rspCode
  | rspInfo
  | dout
  | status
  deriving DecidableEq, Repr

/-- HOST_BUS_MAP (rules R3, R32, R50): where the ports are placed on a host bus, and the pin-level handshake of the response
port. The spec says what the map settles and gives it no form; this form is a DESIGN CHOICE (log 12). -/
structure HostBusMap where
  /-- The place of each port that is on the bus (rule R32); the first entry of a port counts. -/
  places : List (HostPort × Nat)
  /-- For how many clock cycles `rsp_valid` is held (rule R50). -/
  rspValidCycles : Nat
  /-- Whether there is an `rsp_ready` (rule R50). -/
  hasRspReady : Bool
  deriving DecidableEq, Repr

/-- The OPEN parameters of rule R3. They are carried by the state, no step changes them, and every statement about every
state is therefore a statement about every choice of them. Only the first is read by a step: of the others U11 of
93_implementation_defined.md says "no rule depends on them". -/
structure Params where
  /-- UNSUPPORTED_KEY_LENS (rules R3, R112): the key lengths reported as an unimplemented variant. -/
  unsupportedKeyLens : List Len
  /-- CYCLES_PER_STEP (rules R3, R8, R140): clock cycles of one step. -/
  cyclesPerStep : Nat
  /-- RESET_STYLE (rules R3, R130). -/
  resetStyle : ResetStyle
  /-- HOST_BUS_MAP (rules R3, R32, R50). -/
  hostBusMap : HostBusMap
  deriving DecidableEq, Repr

/-- The parameters the model starts from: UNSUPPORTED_KEY_LENS = {32}, the default of rule R3.
DESIGN CHOICE (log 11, log 12): the other three have no default in the spec. CYCLES_PER_STEP is 1, `rst` is active high and
synchronous, no port is placed on a bus, and a response is held for one cycle without an `rsp_ready`. -/
def Params.default : Params where
  unsupportedKeyLens := [32]
  cyclesPerStep := 1
  resetStyle := ⟨.activeHigh, .synchronous⟩
  hostBusMap := ⟨[], 1, false⟩

/-- FREE VALUE (log 2): what `RK[j]` holds after the `n`-th reset event. Rules R22 and R130 leave it unspecified ("a
model takes them as any value"). It has no body: nothing can be proved of it. -/
opaque Config.rkAfterReset : Nat → RoundKeys

end Sys2Proof
end

