-- ==== Sys2Proof/Machine/State.lean ====
section
/-! DEFINITION. The state of SEED-CORE (rule R10), the host's side of its ports (rules R50, R143, R144), the reasons a step
can stop, and the state after reset (rule R22). -/

namespace Sys2Proof.Machine

/-- The sequencer state `FSM` (rules R14, R15). -/
inductive Fsm where
  | idle
  | ks
  | cr
  | fatal
  deriving DecidableEq, Repr

/-- The direction register `DIR`: 0 is encryption, 1 is decryption (rule R14). -/
inductive Dir where
  | encrypt
  | decrypt
  deriving DecidableEq, Repr

/-- The response codes of rule R110, by name; their numbers are `RspCode.bits` in Machine/Flags.lean. -/
inductive RspCode where
  | ok
  | errKeySize
  | errKeySizeUnsupported
  | fatalShortInput
  | fatalShortOutput
  | fatalNoKey
  | fatalIllegalCmd
  deriving DecidableEq, Repr

/-- A response: the triple (`rsp_code`, `rsp_info`, `dout`) of rule R53. -/
structure Response where
  code : RspCode
  info : BitVec 12
  dout : Bus
  deriving DecidableEq, Repr

/-- Why a step stops with a fault. -/
inductive Fault where
  /-- Raised by `step` alone, in `FSM = FATAL` when the host will assert no further reset: "no step is enabled"
  (rules R15, R52, R119, R142; U8 "stuck"). Safe: nothing can be proved of a step that the hardware does not take. -/
  | stuckInFatal
  deriving DecidableEq, Repr

/-- Why a step is refused. -/
inductive Refusal where
  /-- Raised by an arm of `exec` for an instruction that has no meaning yet; no arm raises it. Safe. -/
  | notModelled (mnemonic : String)
  deriving DecidableEq, Repr

/-- The state. The first group is the architectural state of rule R10, whole. The second is the engine's OPEN parameters
(rule R3), which no step changes. The third is the host's side of the ports: what it drives now and what it will drive
(log 4, 6, 10). The fourth is what the engine has answered (log 7). The last is the model's own counter (log 3). -/
structure State where
  /-- `FSM`, 2 bits (rules R10, R15). -/
  fsm : Fsm
  /-- `RND`, 4 bits: rounds completed in the running activity (rule R14). -/
  rnd : BitVec 4
  /-- `DIR`, 1 bit (rule R14). -/
  dir : Dir
  /-- `KEY_VALID`, 1 bit (rule R16). -/
  keyValid : Bool
  /-- `FATAL_CAUSE`, 4 bits (rule R18). -/
  fatalCause : BitVec 4
  /-- `A`, key-schedule working register (rule R11). -/
  a : Word
  /-- `B` (rule R11). -/
  b : Word
  /-- `C` (rule R11). -/
  c : Word
  /-- `D` (rule R11). -/
  d : Word
  /-- `L0`, Feistel working register (rule R12). -/
  l0 : Word
  /-- `L1` (rule R12). -/
  l1 : Word
  /-- `R0` (rule R12). -/
  r0 : Word
  /-- `R1` (rule R12). -/
  r1 : Word
  /-- `RK[0]` to `RK[31]` (rule R19). -/
  rk : RoundKeys
  /-- The OPEN parameters (rule R3). -/
  params : Params
  /-- `rst` as sampled by the coming steps, the next step's sample first; past the list's end it is not asserted. -/
  rst : List Bool
  /-- `cmd_valid` (rule R50). -/
  cmdValid : Bool
  /-- `cmd` (rule R50). -/
  cmd : Word
  /-- `din` (rule R50). -/
  din : Bus
  /-- What the host puts on the command port when the port is next free, one entry a step: a command, or nothing. -/
  pending : List (Option Command)
  /-- The response port in the step just taken: `some r` is `rsp_valid = 1` with the triple `r` (rule R53). -/
  rsp : Option Response
  /-- The responses of this run in order, the result of rule R143. -/
  responses : List Response
  /-- The model's own field: how many reset events have been taken; it only feeds `Config.rkAfterReset`. -/
  resets : Nat
  deriving DecidableEq, Repr

/-- The state after reset (rules R22, R130). `RK` is unspecified by the spec and zero here (log 1, DESIGN CHOICE). No
command is presented, none will be, and `rst` is not asserted. -/
def State.reset : State where
  fsm := .idle
  rnd := 0
  dir := .encrypt
  keyValid := false
  fatalCause := 0
  a := 0
  b := 0
  c := 0
  d := 0
  l0 := 0
  l1 := 0
  r0 := 0
  r1 := 0
  rk := Vector.replicate 32 0
  params := Params.default
  rst := []
  cmdValid := false
  cmd := 0
  din := 0
  pending := []
  rsp := none
  responses := []
  resets := 0

end Sys2Proof.Machine
end

