-- ==== Sys2Proof/Machine/Cipher.lean ====
section
/-! DEFINITION. The pure functions of the cipher: G and F (rules R67 to R70), one round of the key schedule and the whole of it
(rules R78, R80), one round of the transform and the whole of it (rules R88, R92). No state is read or written here. -/

namespace Sys2Proof.Machine

/-- G (rule R67): table `SSj` is indexed by byte lane `j` of the operand. -/
def g (x : Word) : Word :=
  sub 0 (lane x 0) ^^^ sub 1 (lane x 1) ^^^ sub 2 (lane x 2) ^^^ sub 3 (lane x 3)

/-- G in its byte form (rule R68): two byte tables and a network of masks. -/
def gBytes (x : Word) : Word :=
  let p := s1 (lane x 0)
  let q := s2 (lane x 1)
  let r := s1 (lane x 2)
  let t := s2 (lane x 3)
  ((p &&& maskAt 3) ^^^ (q &&& maskAt 0) ^^^ (r &&& maskAt 1) ^^^ (t &&& maskAt 2)) ++
    ((p &&& maskAt 2) ^^^ (q &&& maskAt 3) ^^^ (r &&& maskAt 0) ^^^ (t &&& maskAt 1)) ++
    ((p &&& maskAt 1) ^^^ (q &&& maskAt 2) ^^^ (r &&& maskAt 3) ^^^ (t &&& maskAt 0)) ++
    ((p &&& maskAt 0) ^^^ (q &&& maskAt 1) ^^^ (r &&& maskAt 2) ^^^ (t &&& maskAt 3))

/-- F (rule R69), line by line; the result is the pair (`F0`, `F1`). -/
def f (c d k0 k1 : Word) : Word × Word :=
  let t0 := c ^^^ k0
  let t1 := d ^^^ k1
  let t1 := t1 ^^^ t0
  let t1 := g t1
  let t0 := t0 + t1
  let t0 := g t0
  let t1 := t1 + t0
  let t1 := g t1
  let t0 := t0 + t1
  (t0, t1)

/-- The four key-schedule working words `A`, `B`, `C`, `D` (rule R11). -/
structure KeyRegs where
  a : Word
  b : Word
  c : Word
  d : Word
  deriving DecidableEq, Repr

/-- The words of a 16-byte key (rule R43). -/
def KeyRegs.ofKey (key : Block) : KeyRegs where
  a := be32 key 0
  b := be32 key 4
  c := be32 key 8
  d := be32 key 12

/-- The round-key word `RK[2i] = G(A +32 C -32 KC[i])` (rules R78, R80). -/
def roundKeyEven (k : KeyRegs) (i : BitVec 4) : Word := g (k.a + k.c - kc i)

/-- The round-key word `RK[2i + 1] = G(B -32 D +32 KC[i])` (rules R78, R80). -/
def roundKeyOdd (k : KeyRegs) (i : BitVec 4) : Word := g (k.b - k.d + kc i)

/-- The rotate of the round step, word by word as rule R78 writes it: even rounds turn `A || B` right by a byte, odd rounds
`C || D` left by a byte. -/
def rotateWords (k : KeyRegs) (i : BitVec 4) : KeyRegs :=
  if i.toNat % 2 = 0 then
    { k with
      a := k.a >>> 8 ||| (k.b &&& 0xFF) <<< 24
      b := k.b >>> 8 ||| (k.a &&& 0xFF) <<< 24 }
  else
    { k with
      c := k.c <<< 8 ||| k.d >>> 24
      d := k.d <<< 8 ||| k.c >>> 24 }

/-- The rotate of the schedule as a function, on 64-bit values as rule R80 writes it. -/
def rotatePairs (k : KeyRegs) (i : BitVec 4) : KeyRegs :=
  if i.toNat % 2 = 0 then
    let t := ror64by8 (k.a ++ k.b)
    { k with a := t.extractLsb' 32 32, b := t.extractLsb' 0 32 }
  else
    let t := rol64by8 (k.c ++ k.d)
    { k with c := t.extractLsb' 32 32, d := t.extractLsb' 0 32 }

/-- One pass of the loop of rule R80 over the working words and the array. -/
def scheduleRound (x : KeyRegs × RoundKeys) (i : BitVec 4) : KeyRegs × RoundKeys :=
  (rotatePairs x.1 i,
    rkWrite (rkWrite x.2 (rkEven i) (roundKeyEven x.1 i)) (rkOdd i) (roundKeyOdd x.1 i))

/-- The working words and the array after the first `n` rounds of the schedule of `key`, begun over the array `rk0`. -/
def scheduleAfter (key : Block) (rk0 : RoundKeys) : Nat → KeyRegs × RoundKeys
  | 0 => (KeyRegs.ofKey key, rk0)
  | n + 1 => scheduleRound (scheduleAfter key rk0 n) (BitVec.ofNat 4 n)

/-- `KeySchedule(key)` (rule R80): all sixteen rounds; every entry of the array begun with is overwritten. -/
def keySchedule (key : Block) : RoundKeys :=
  (scheduleAfter key (Vector.replicate 32 0) 16).2

/-- The four Feistel working words: Left is `L0 || L1`, Right is `R0 || R1` (rule R12). -/
structure Halves where
  l0 : Word
  l1 : Word
  r0 : Word
  r1 : Word
  deriving DecidableEq, Repr

/-- The words of a 16-byte block (rule R42). -/
def Halves.ofBlock (block : Block) : Halves where
  l0 := be32 block 0
  l1 := be32 block 4
  r0 := be32 block 8
  r1 := be32 block 12

/-- The 16-byte block of four words (rule R42). -/
def Halves.toBlock (h : Halves) : Block := bytesOfWords h.l0 h.l1 h.r0 h.r1

/-- The exchange of Left and Right. -/
def Halves.swap (h : Halves) : Halves where
  l0 := h.r0
  l1 := h.r1
  r0 := h.l0
  r1 := h.l1

/-- The index of the key pair used at `RND = n` (rules R14, R87). -/
def roundIndex (dir : Dir) (n : BitVec 4) : BitVec 4 :=
  match dir with
  | .encrypt => n
  | .decrypt => 15 - n

/-- `F(Right, RK[2i], RK[2i + 1])` added into Left by XOR, no swap (rules R88, R92). -/
def mixLeft (rk : RoundKeys) (i : BitVec 4) (h : Halves) : Halves :=
  let y := f h.r0 h.r1 (rkRead rk (rkEven i)) (rkRead rk (rkOdd i))
  { h with l0 := h.l0 ^^^ y.1, l1 := h.l1 ^^^ y.2 }

/-- The words after the first `n` passes of the loop of rule R92: the swap is left out in the sixteenth. -/
def transformAfter (rk : RoundKeys) (dir : Dir) (h : Halves) : Nat → Halves
  | 0 => h
  | n + 1 =>
    let x := mixLeft rk (roundIndex dir (BitVec.ofNat 4 n)) (transformAfter rk dir h n)
    if n < 15 then x.swap else x

/-- `Transform(RK, block, dir)` (rule R92). -/
def transform (rk : RoundKeys) (block : Block) (dir : Dir) : Block :=
  (transformAfter rk dir (Halves.ofBlock block) 16).toBlock

end Sys2Proof.Machine
end

