-- ==== Sys2Proof/Machine/Flags.lean ====
section
/-! DEFINITION. The codes and the output ports: response codes (rule R110), `FSM` encoding (rule R15), `STATUS` (rule R17),
`cmd_ready`, `rsp_valid`, `rsp_code`, `rsp_info`, `dout` (rule R50). All are pure functions of the state. -/

namespace Sys2Proof.Machine

/-- The number of a response code (rule R110). -/
def RspCode.bits : RspCode → BitVec 4
  | .ok => 0x0
  | .errKeySize => 0x1
  | .errKeySizeUnsupported => 0x2
  | .fatalShortInput => 0x8
  | .fatalShortOutput => 0x9
  | .fatalNoKey => 0xA
  | .fatalIllegalCmd => 0xB

/-- The fatal class of rule R110. -/
def RspCode.isFatal : RspCode → Bool
  | .ok => false
  | .errKeySize => false
  | .errKeySizeUnsupported => false
  | .fatalShortInput => true
  | .fatalShortOutput => true
  | .fatalNoKey => true
  | .fatalIllegalCmd => true

/-- The encoding of `FSM` (rule R15). -/
def Fsm.bits : Fsm → BitVec 2
  | .idle => 0
  | .ks => 1
  | .cr => 2
  | .fatal => 3

/-- The encoding of `DIR` (rule R14). -/
def Dir.bit : Dir → BitVec 1
  | .encrypt => 0
  | .decrypt => 1

/-- `BUSY` (rule R17): `FSM = KS` or `FSM = CR`. -/
def State.busy (s : State) : Bool := s.fsm == .ks || s.fsm == .cr

/-- `STATUS` (rule R17): `FATAL_CAUSE` in bits 7:4, 0, `FATAL`, `KEY_VALID`, `BUSY`. -/
def State.status (s : State) : BitVec 8 :=
  s.fatalCause ++ 0#1 ++ BitVec.ofBool (s.fsm == .fatal) ++ BitVec.ofBool s.keyValid ++
    BitVec.ofBool s.busy

/-- `cmd_ready = (FSM = IDLE)` (rules R50, R52). -/
def State.cmdReady (s : State) : Bool := s.fsm == .idle

/-- `rsp_valid` (rule R50). -/
def State.rspValid (s : State) : Bool := s.rsp.isSome

/-- `rsp_code` (rule R50). The spec gives the port no value while `rsp_valid = 0` (log 14). -/
def State.rspCode (s : State) : Option (BitVec 4) := s.rsp.map (·.code.bits)

/-- `rsp_info` (rule R50): "a length or the block size, 0 otherwise". -/
def State.rspInfo (s : State) : BitVec 12 :=
  match s.rsp with
  | some r => r.info
  | none => 0

/-- `dout` (rule R50): "result block on an OK response of ENC or DEC, 0 otherwise". -/
def State.dout (s : State) : Bus :=
  match s.rsp with
  | some r => r.dout
  | none => 0

end Sys2Proof.Machine
end

