-- ==== Sys2Proof/Machine/Ops.lean ====
section
/-! DEFINITION. The operations the meanings and the step share: responding, raising an exception and the exit from it (reset),
the working registers' clearing, and the host's side of the ports. -/

namespace Sys2Proof.Machine

/-- The step emits the response `r` (rule R53). -/
def State.respond (s : State) (r : Response) : State :=
  { s with rsp := some r, responses := s.responses ++ [r] }

/-- The step emits no response: `rsp_valid = 0` (rule R53). -/
def State.noResponse (s : State) : State :=
  { s with rsp := none }

/-- The OK response with `rsp_info` and `dout`. -/
def State.respondOk (s : State) (info : BitVec 12) (dout : Bus) : State :=
  s.respond ⟨.ok, info, dout⟩

/-- TAKING A FATAL EXCEPTION (rule R119): `FATAL_CAUSE <- c`, `FSM <- FATAL`, respond (`c`, `n`, 0), nothing else. -/
def State.raiseFatal (s : State) (code : RspCode) (info : BitVec 12) : State :=
  State.respond { s with fatalCause := code.bits, fsm := .fatal } ⟨code, info, 0⟩

/-- TAKING A RECOVERABLE EXCEPTION (rules R111, R112, R120): the response is its whole effect. -/
def State.raiseRecoverable (s : State) (code : RspCode) (info : BitVec 12) : State :=
  s.respond ⟨code, info, 0⟩

/-- THE RESET EVENT, the only exit from `FATAL` (rules R121, R130, R131): the state of rule R22. The running command gives no
response. The ports are the host's and stay; the parameters stay; `RK` is unspecified, a free value (log 2); the run's
list of responses begins anew (rule R143, log 7). -/
def State.resetEvent (s : State) : State :=
  { State.reset with
    rk := Config.rkAfterReset s.resets
    params := s.params
    rst := s.rst
    cmdValid := s.cmdValid
    cmd := s.cmd
    din := s.din
    pending := s.pending
    resets := s.resets + 1 }

/-- `A`, `B`, `C`, `D` as one record. -/
def State.keyRegs (s : State) : KeyRegs := ⟨s.a, s.b, s.c, s.d⟩

/-- `A`, `B`, `C`, `D` written together. -/
def State.setKeyRegs (s : State) (k : KeyRegs) : State :=
  { s with a := k.a, b := k.b, c := k.c, d := k.d }

/-- `L0`, `L1`, `R0`, `R1` as one record. -/
def State.halves (s : State) : Halves := ⟨s.l0, s.l1, s.r0, s.r1⟩

/-- `L0`, `L1`, `R0`, `R1` written together. -/
def State.setHalves (s : State) (h : Halves) : State :=
  { s with l0 := h.l0, l1 := h.l1, r0 := h.r0, r1 := h.r1 }

/-- `rst` as the coming step samples it (rule R50; log 10). -/
def State.rstAsserted (s : State) : Bool := s.rst.headD false

/-- The host will assert `rst` at some later step. -/
def State.resetToCome (s : State) : Bool := s.rst.any id

/-- The command port with the host's command on it. -/
def State.present (s : State) (c : Command) : State :=
  { s with cmdValid := true, cmd := c.word, din := c.din }

/-- The command port with no command on it; the idle lines read 0 (log 5). -/
def State.presentNothing (s : State) : State :=
  { s with cmdValid := false, cmd := 0, din := 0 }

/-- The host's move on a free port: its next entry, or nothing once there is none (log 6). -/
def State.refillPort (s : State) : State :=
  match s.pending with
  | [] => s.presentNothing
  | none :: rest => State.presentNothing { s with pending := rest }
  | some c :: rest => State.present { s with pending := rest } c

/-- The host's side of one step: this step's sample of `rst` is used up; a presented command that was not accepted stays
as it is (rules R52, R135); a free port takes the host's next entry. -/
def State.hostMoves (s : State) (accepted : Bool) : State :=
  let s := { s with rst := s.rst.tail }
  if s.cmdValid && !accepted then s else s.refillPort

end Sys2Proof.Machine
end

