-- ==== Sys2Proof/Machine/HostCommands.lean ====
section
/-! DEFINITION. The host commands BLKSZ and CLR (rules R100 to R102), and what the accept step of a reserved encoding does (rules
R57, R115). -/

namespace Sys2Proof.Machine

/-- The block size, a constant of the hardware (rule R101; rule R3, BLOCK_BYTES). -/
def blockSize : BitVec 12 := 16

/-- BLKSZ (rule R100): no state is written and no key is needed. -/
def execBlksz (s : State) : Host.Outcome State Fault Refusal :=
  .next (s.respondOk blockSize 0)

/-- CLR (rule R102): `RK[0..31] <- 0`, `KEY_VALID <- 0`. -/
def execClr (s : State) : Host.Outcome State Fault Refusal :=
  .next (State.respondOk { s with rk := Vector.replicate 32 0, keyValid := false } 0 0)

/-- IllegalCommand (rules R57, R115): the accept step of any reserved encoding. -/
def State.illegalCommand (s : State) : State := s.raiseFatal .fatalIllegalCmd 0

end Sys2Proof.Machine
end

