-- ==== Sys2Proof/Machine/KeySchedule.lean ====
section
/-! DEFINITION. KEYLD: its accept step (rules R75, R76) and the key-schedule round step (rules R77, R78). -/

namespace Sys2Proof.Machine

/-- The KEYLD accept step past its checks (rule R76): the key is captured from `din` whole (rule R51), `RK` is not written. -/
def State.startSchedule (s : State) : State :=
  State.noResponse
    { s with
      a := busWord0 s.din
      b := busWord1 s.din
      c := busWord2 s.din
      d := busWord3 s.din
      keyValid := false
      rnd := 0
      fsm := .ks }

/-- KEYLD, the accept step (rule R76). The test of UNSUPPORTED_KEY_LENS comes first (rule R118). -/
def execKeyld (len : Len) (s : State) : Host.Outcome State Fault Refusal :=
  if len ∈ s.params.unsupportedKeyLens then .next (s.raiseRecoverable .errKeySizeUnsupported len)
  else if len ≠ 16#12 then .next (s.raiseRecoverable .errKeySize len)
  else .next s.startSchedule

/-- `RK[2i]` and `RK[2i + 1]` written from the working words of before the step, `i = RND` (rule R78). -/
def State.writeRoundKeys (s : State) : State :=
  { s with
    rk := rkWrite (rkWrite s.rk (rkEven s.rnd) (roundKeyEven s.keyRegs s.rnd)) (rkOdd s.rnd)
      (roundKeyOdd s.keyRegs s.rnd) }

/-- KS_ROUND, the key-schedule round step (rule R78). In the sixteenth the clearing overrides the rotate. -/
def State.ksRound (s : State) : State :=
  let t := s.writeRoundKeys
  if s.rnd.toNat < 15 then
    State.noResponse { t.setKeyRegs (rotateWords s.keyRegs s.rnd) with rnd := s.rnd + 1 }
  else
    State.respondOk { t.setKeyRegs ⟨0, 0, 0, 0⟩ with keyValid := true, rnd := 0, fsm := .idle } 0 0

end Sys2Proof.Machine
end

