-- ==== Sys2Proof/Machine/Transform.lean ====
section
/-! DEFINITION. ENC and DEC: their accept step (rules R85, R86, R90) and the Feistel round step (rules R87, R88). -/

namespace Sys2Proof.Machine

/-- The accept step of ENC and DEC past its checks (rule R86): the block is captured from `din` whole (rule R51). -/
def State.startTransform (s : State) (dir : Dir) : State :=
  State.noResponse
    { s with
      l0 := busWord0 s.din
      l1 := busWord1 s.din
      r0 := busWord2 s.din
      r1 := busWord3 s.din
      dir := dir
      rnd := 0
      fsm := .cr }

/-- The accept step of ENC and DEC (rule R86): NoKey, then ShortInput, then ShortOutput (rule R118); `rsp_info` is as rule
R110 gives it. -/
def State.acceptTransform (s : State) (dir : Dir) (slen dlen : Len) : State :=
  if s.keyValid = false then s.raiseFatal .fatalNoKey 0
  else if slen < 16#12 then s.raiseFatal .fatalShortInput slen
  else if dlen < 16#12 then s.raiseFatal .fatalShortOutput dlen
  else s.startTransform dir

/-- ENC, the accept step (rules R85, R86). -/
def execEnc (slen dlen : Len) (s : State) : Host.Outcome State Fault Refusal :=
  .next (s.acceptTransform .encrypt slen dlen)

/-- DEC, the accept step (rules R90, R86): ENC's but for `DIR` (rule R91). -/
def execDec (slen dlen : Len) (s : State) : Host.Outcome State Fault Refusal :=
  .next (s.acceptTransform .decrypt slen dlen)

/-- CR_ROUND, the Feistel round step (rule R88). The test for the last round is on `RND`; its swap is left out. -/
def State.crRound (s : State) : State :=
  let x := mixLeft s.rk (roundIndex s.dir s.rnd) s.halves
  if s.rnd.toNat < 15 then
    State.noResponse { s.setHalves x.swap with rnd := s.rnd + 1 }
  else
    State.respondOk { s.setHalves ⟨0, 0, 0, 0⟩ with rnd := 0, fsm := .idle } 0 (x.l0 ++ x.l1 ++ x.r0 ++ x.r1)

end Sys2Proof.Machine
end

