-- ==== Sys2Proof/Machine/Dispatch.lean ====
section
/-! DEFINITION. exec: one arm per command, each one call of its meaning. exec is the ACCEPT STEP of the command (rule R8); the rounds
that follow are steps of the sequencer (Machine/Step.lean). -/

namespace Sys2Proof.Machine

def exec (i : Instr) (s : State) : Host.Outcome State Fault Refusal :=
  match i with
  | .keyld len => Sys2Proof.Machine.execKeyld len s
  | .enc slen dlen => Sys2Proof.Machine.execEnc slen dlen s
  | .dec slen dlen => Sys2Proof.Machine.execDec slen dlen s
  | .blksz => Sys2Proof.Machine.execBlksz s
  | .clr => Sys2Proof.Machine.execClr s

end Sys2Proof.Machine
end

