-- ==== Sys2Proof/Machine/Step.lean ====
section
/-! DEFINITION. One step (rules R8, R14, R15): a reset, an accept step, a key-schedule round step, a Feistel round step, or a
step in which nothing is to be done. -/

namespace Sys2Proof.Machine

/-- `k` applied to the next state of an outcome; a fault or a refusal stays. -/
def mapNext (k : State → State) : Host.Outcome State Fault Refusal → Host.Outcome State Fault Refusal
  | .next s => .next (k s)
  | .fault r => .fault r
  | .refused r => .refused r

/-- The accept step of the presented word (rules R51, R57, R58). -/
def acceptStep (s : State) : Host.Outcome State Fault Refusal :=
  match decode s.cmd with
  | .command i => exec i s
  | .reserved _ => .next s.illegalCommand

/-- One step. `rst` comes before everything (rule R131). In `FATAL` no step is enabled (rule R15): the engine stays as it is
until the reset that is to come, and is stuck if none is (log 9). In `IDLE` with no command presented nothing changes (rule
R126, log 8). -/
def step (s : State) : Host.Outcome State Fault Refusal :=
  if s.rstAsserted then .next (s.resetEvent.hostMoves false)
  else
    match s.fsm with
    | .fatal => if s.resetToCome then .next (s.noResponse.hostMoves false) else .fault .stuckInFatal
    | .ks => .next (s.ksRound.hostMoves false)
    | .cr => .next (s.crRound.hostMoves false)
    | .idle =>
      if s.cmdValid then mapNext (fun t => t.hostMoves true) (acceptStep s)
      else .next (s.noResponse.hostMoves false)

/-- The first sample of `rst` made not asserted. -/
def releaseRst : List Bool → List Bool
  | [] => []
  | _ :: later => false :: later

/-- The host places the word `w` on the command port so that the very next step accepts it: presented, the engine ready,
`rst` not asserted at that step. `din` stays (log 13). -/
def State.withFetchWord (s : State) (nbits w : Nat) : State :=
  { s with
    cmdValid := true
    cmd := BitVec.ofNat 32 (w % 2 ^ nbits)
    fsm := .idle
    rst := releaseRst s.rst }

end Sys2Proof.Machine
end

