-- ==== Sys2Proof/Machine/Assembler.lean ====
section
/-! DEFINITION. What each line of the assembler syntax presents to the command port (rule R59). -/

namespace Sys2Proof.Machine

/-- `min(len, 4095)` as a 12-bit field (rules R55, R59). -/
def saturate (len : Nat) : Len := BitVec.ofNat 12 (min len 4095)

/-- The bytes of an operand of which `len` are given; the missing bytes are 0 (rule R59). -/
def operandBus (len : Nat) (operand : Block) : Bus :=
  busOfBytes (operand.mapIdx fun k x => if k < len then x else 0)

/-- The command a line stands for: its word and its `din` (rule R59). Where the core ignores `din` it is 0. -/
def assemble : AsmLine → Command
  | .keyld len key => ⟨0x10000000 ||| (saturate len).setWidth 32, operandBus len key⟩
  | .enc slen dlen block =>
    ⟨0x20000000 ||| (saturate dlen).setWidth 32 <<< 12 ||| (saturate slen).setWidth 32, operandBus slen block⟩
  | .dec slen dlen block =>
    ⟨0x30000000 ||| (saturate dlen).setWidth 32 <<< 12 ||| (saturate slen).setWidth 32, operandBus slen block⟩
  | .blksz => ⟨0x40000000, 0⟩
  | .clr => ⟨0x50000000, 0⟩
  | .word w => ⟨w, 0⟩
  | .newCipher key => ⟨0x10000010, busOfBytes key⟩
  | .encrypt block => ⟨0x20010010, busOfBytes block⟩
  | .decrypt block => ⟨0x30010010, busOfBytes block⟩

end Sys2Proof.Machine
end

