-- ==== Sys2Proof/Machine/Pins.lean ====
section
/-! DEFINITION. What RESET_STYLE and HOST_BUS_MAP settle (rules R3, R32, R50, R130): the level on the `rst` pin and the places of
the ports on a host bus. No step reads them. -/

namespace Sys2Proof.Machine

/-- The level that means `asserted` on the `rst` pin (rule R130). -/
def rstLevel (style : ResetStyle) (asserted : Bool) : Bool :=
  match style.polarity with
  | .activeHigh => asserted
  | .activeLow => !asserted

/-- The level on the `rst` pin that the coming step samples (rules R50, R130). -/
def State.rstPin (s : State) : Bool := rstLevel s.params.resetStyle s.rstAsserted

/-- The place of a port on the host bus, if it has one (rule R32). -/
def placeOf (m : HostBusMap) (p : HostPort) : Option Nat := m.places.lookup p

end Sys2Proof.Machine
end

