-- ==== Sys2Proof/Machine/Timing.lean ====
section
/-! DEFINITION. Step and cycle counts (rules R140, R141). No step reads them. -/

namespace Sys2Proof.Machine

/-- How many steps a command takes from the state it is accepted in (rule R140). -/
def stepsOf (i : Instr) (s : State) : Nat :=
  match i with
  | .keyld len => if len = 16#12 ∧ len ∉ s.params.unsupportedKeyLens then 17 else 1
  | .enc slen dlen => if s.keyValid = true ∧ 16#12 ≤ slen ∧ 16#12 ≤ dlen then 17 else 1
  | .dec slen dlen => if s.keyValid = true ∧ 16#12 ≤ slen ∧ 16#12 ≤ dlen then 17 else 1
  | .blksz => 1
  | .clr => 1

/-- How many steps the presented word takes (rule R140): a reserved encoding takes one. -/
def stepsOfWord (w : Word) (s : State) : Nat :=
  match decode w with
  | .command i => stepsOf i s
  | .reserved _ => 1

/-- The clock cycles of `n` steps (rules R8, R140). -/
def cyclesOfSteps (s : State) (n : Nat) : Nat := n * s.params.cyclesPerStep

end Sys2Proof.Machine
end

