-- ==== Sys2Proof/WellFormed.lean ====
section
/-! DEFINITION. The checks the types do not already make. An `Instr` has no ill-formed term: its lengths are the 12-bit fields
of rule R55 and every value of them has a meaning (log 18). What can be ill-formed is a choice of parameters and a line of
the assembler. -/

namespace Sys2Proof

/-- UNSUPPORTED_KEY_LENS "must not contain 16" (rules R76, R112). -/
def Params.sixteenIsSupported (p : Params) : Bool :=
  !p.unsupportedKeyLens.contains 16#12

/-- A member of 4095 or more cannot be told from a saturated length "and must not be configured" (rule R55). -/
def Params.belowSaturation (p : Params) : Bool :=
  !p.unsupportedKeyLens.contains 4095#12

/-- CYCLES_PER_STEP is "at least 1" (rule R3). -/
def Params.takesTime (p : Params) : Bool :=
  1 ≤ p.cyclesPerStep

/-- The named premise `Params` of rule R145. -/
def Params.wellFormed (p : Params) : Bool :=
  p.sixteenIsSupported && p.belowSaturation && p.takesTime

/-- The bytes of a 16-byte operand that a true length of `len` does not give are 0 (rule R59, "missing bytes are 0"). -/
def missingBytesZero (len : Nat) (operand : Block) : Bool :=
  (operand.toList.drop len).all (· == 0)

/-- The one check of a line: an operand longer than its declared length has zeros past it. -/
def AsmLine.wellFormed : AsmLine → Bool
  | .keyld len key => missingBytesZero len key
  | .enc slen _ block => missingBytesZero slen block
  | .dec slen _ block => missingBytesZero slen block
  | .blksz => true
  | .clr => true
  | .word _ => true
  | .newCipher _ => true
  | .encrypt _ => true
  | .decrypt _ => true

end Sys2Proof
end

