-- ==== Sys2Proof/Safety.lean ====
section
/-! DEFINITION. The terms claims are stated in: the named premises of rule R145, what a run is (rule R143), the engine without
the host's side of its ports, the transition table of rule R15 and the invariants of rule R23. -/

namespace Sys2Proof

open Machine

/-! The named premises (rule R145). -/

/-- `AfterReset`: the state of rule R22, with `RK` arbitrary. -/
abbrev AfterReset (s : State) : Prop :=
  s.fsm = .idle ∧ s.rnd = 0 ∧ s.dir = .encrypt ∧ s.keyValid = false ∧ s.fatalCause = 0 ∧
    s.keyRegs = ⟨0, 0, 0, 0⟩ ∧ s.halves = ⟨0, 0, 0, 0⟩

/-- `Idle`. -/
abbrev Idle (s : State) : Prop := s.fsm = .idle

/-- `NoFatal`. -/
abbrev NoFatal (s : State) : Prop := s.fsm ≠ .fatal

/-- `KeyLoaded(K)`. -/
abbrev KeyLoaded (key : Block) (s : State) : Prop := s.keyValid = true ∧ s.rk = keySchedule key

/-- `HonestLengths`, for one length: the host declares `min(true length, 4095)` (rules R55, R139). -/
abbrev HonestLength (trueLen : Nat) (declared : Len) : Prop := declared.toNat = min trueLen 4095

/-- `Params`. -/
abbrev GoodParams (s : State) : Prop := s.params.wellFormed = true

/-- The state with other values of the parameters that no rule depends on: CYCLES_PER_STEP, RESET_STYLE, HOST_BUS_MAP (rule
R3; U11 of 93_implementation_defined.md). -/
def retune (cycles : Nat) (style : ResetStyle) (map : HostBusMap) (s : State) : State :=
  { s with params := { s.params with cyclesPerStep := cycles, resetStyle := style, hostBusMap := map } }

/-! Runs (rule R143). -/

/-- The run has ended: every command answered, `FSM = IDLE`, nothing more presented. Its result is `s.responses` and `s`. -/
abbrev RunEnded (s : State) : Prop := s.fsm = .idle ∧ s.cmdValid = false ∧ s.pending = []

/-- The run is faulted. -/
abbrev RunFaulted (s : State) : Prop := s.fsm = .fatal

/-- `rst` is not asserted in any of the next `n` steps. -/
abbrev NoResetFor (n : Nat) (s : State) : Prop := ∀ k < n, s.rst.getD k false = false

/-- The next step is the accept step of the presented word (rules R51, R52). -/
abbrev AcceptsWord (s : State) : Prop := s.rstAsserted = false ∧ s.fsm = .idle ∧ s.cmdValid = true

/-- The next step is the accept step of the command `i`. -/
abbrev Accepts (i : Instr) (s : State) : Prop := AcceptsWord s ∧ decode s.cmd = .command i

/-- The command that runs the transform in the direction `dir`: ENC or DEC. -/
def transformInstr (dir : Dir) (slen dlen : Len) : Instr :=
  match dir with
  | .encrypt => .enc slen dlen
  | .decrypt => .dec slen dlen

/-- The key flag and both lengths are as ENC and DEC need them (rules R85, R90: no exception applies). -/
abbrev TransformAllowed (slen dlen : Len) (s : State) : Prop := s.keyValid = true ∧ 16#12 ≤ slen ∧ 16#12 ≤ dlen

/-- A known answer: under the key, ENC takes the plaintext to the ciphertext and DEC takes it back (as buses, rule R44). -/
abbrev VectorHolds (key plain cipher : Bus) : Prop :=
  busOfBytes (transform (keySchedule (bytesOfBus key)) (bytesOfBus plain) .encrypt) = cipher ∧
    busOfBytes (transform (keySchedule (bytesOfBus key)) (bytesOfBus cipher) .decrypt) = plain

/-- No row of the opcode map selects the word (rule R57). -/
abbrev SelectsNoRow (w : Word) : Prop := ∀ r ∈ opcodeRows, r.selects w = false

/-- The engine without the host's side of the input ports: everything of the state but `rst`, `cmd_valid`, `cmd`, `din` and
what the host will present. -/
def engine (s : State) : State :=
  { s with rst := [], cmdValid := false, cmd := 0, din := 0, pending := [] }

/-- The states differ at most in the host's side of the input ports. -/
abbrev SameEngine (t s : State) : Prop := engine t = engine s

/-- The host's side of the input ports, as one tuple. -/
def hostSide (s : State) : List Bool × Bool × Word × Bus × List (Option Command) :=
  (s.rst, s.cmdValid, s.cmd, s.din, s.pending)

/-! The transition table (rule R15). -/

/-- Where an accepted command leads (the `IDLE` rows of rule R15). -/
def AcceptTransition (d : Decoded) (s t : State) : Prop :=
  match d with
  | .command (.keyld len) =>
    if len = 16#12 ∧ len ∉ s.params.unsupportedKeyLens then t.fsm = .ks ∧ t.rnd = 0 else t.fsm = .idle
  | .command (.enc slen dlen) =>
    if s.keyValid = true ∧ 16#12 ≤ slen ∧ 16#12 ≤ dlen then t.fsm = .cr ∧ t.rnd = 0 ∧ t.dir = .encrypt else t.fsm = .fatal
  | .command (.dec slen dlen) =>
    if s.keyValid = true ∧ 16#12 ≤ slen ∧ 16#12 ≤ dlen then t.fsm = .cr ∧ t.rnd = 0 ∧ t.dir = .decrypt else t.fsm = .fatal
  | .command .blksz => t.fsm = .idle
  | .command .clr => t.fsm = .idle
  | .reserved _ => t.fsm = .fatal

/-- The transitions of rule R15, reset first. -/
def Transition (s t : State) : Prop :=
  if s.rstAsserted = true then t.fsm = .idle ∧ t.rnd = 0
  else
    match s.fsm with
    | .idle => if s.cmdValid = true then AcceptTransition (decode s.cmd) s t else t.fsm = .idle
    | .ks => if s.rnd.toNat < 15 then t.fsm = .ks ∧ t.rnd = s.rnd + 1 else t.fsm = .idle ∧ t.rnd = 0
    | .cr => if s.rnd.toNat < 15 then t.fsm = .cr ∧ t.rnd = s.rnd + 1 else t.fsm = .idle ∧ t.rnd = 0
    | .fatal => t.fsm = .fatal

/-! The invariants (rules R14, R18, R21, R23). -/

/-- The working registers and the round counter rest at 0 outside their activity (rules R11 to R14, R21, R23 (d)). -/
def RestingRegisters (s : State) : Prop :=
  (s.fsm ≠ .ks → s.keyRegs = ⟨0, 0, 0, 0⟩) ∧ (s.fsm ≠ .cr → s.halves = ⟨0, 0, 0, 0⟩) ∧
    (s.rnd ≠ 0 → s.fsm = .ks ∨ s.fsm = .cr)

/-- `FATAL_CAUSE` is nonzero exactly in `FATAL`, and then it is a code of the fatal class (rules R18, R23 (e), R110). -/
def CauseRecorded (s : State) : Prop :=
  (s.fatalCause ≠ 0 ↔ s.fsm = .fatal) ∧
    (s.fsm = .fatal → ∃ code : RspCode, code.isFatal = true ∧ s.fatalCause = code.bits)

/-- `KEY_VALID` is 0 throughout a schedule and 1 throughout a transform (rules R16, R23 (c)). -/
def KeyFlagFits (s : State) : Prop :=
  (s.fsm = .ks → s.keyValid = false) ∧ (s.fsm = .cr → s.keyValid = true)

/-- A valid key means the whole schedule of some key; a running schedule has done its first `RND` rounds (rules R16, R23 (b)). -/
def ScheduleHeld (s : State) : Prop :=
  (s.keyValid = true → ∃ key, s.rk = keySchedule key) ∧
    (s.fsm = .ks → ∃ key rk0, (s.keyRegs, s.rk) = scheduleAfter key rk0 s.rnd.toNat)

/-- The invariant of rule R23 with rules R14, R18 and R21. Rule R23 (a), that `RK` has 32 entries, is the type's. -/
def Inv (s : State) : Prop := RestingRegisters s ∧ CauseRecorded s ∧ KeyFlagFits s ∧ ScheduleHeld s

end Sys2Proof
end

