-- ==== Sys2Proof/Certificates/Slice0/Obligations.lean ====
section
/-! DEFINITION. The statements for the provers, each with the rules of spec/ it comes from. A step's or an accept step's result is
stated as an equation with a next state, under hypotheses on the state and the operands alone; `engine` leaves out the
host's side of the input ports, which `StepRunsDecodedCommand` and `PresentedCommandWaits` state. -/

open Sys2Proof Sys2Proof.Machine

/-! The encoding (rules R54 to R59). -/

/-- Rules R54, R56: no bit of a command's encoding is dropped. -/
def Obligations.EncodedCommandDecodesBack : Prop :=
  ∀ i : Instr, decode (encode i) = .command i

/-- Rules R54, R56, R57: a word that decodes to a command is that command's one word. -/
def Obligations.DecodedWordEncodesBack : Prop :=
  ∀ (w : Word) (i : Instr), decode w = .command i → encode i = w

/-- Rule R56: a word decodes to the command of the row that selects it, and no two rows select one word. -/
def Obligations.OpcodeMapSelectsCommand : Prop :=
  ∀ w : Word,
    (∀ r ∈ opcodeRows, r.selects w = true ↔ ∃ i, decode w = .command i ∧ i.mnemonic = r.mnemonic) ∧
    (∀ r ∈ opcodeRows, ∀ r' ∈ opcodeRows, r.selects w = true → r'.selects w = true → r = r')

/-- Rules R57, R115: which words are reserved, and that accepting one is the fatal exception IllegalCommand. -/
def Obligations.ReservedEncodingIsFatal : Prop :=
  (∀ w : Word,
    (SelectsNoRow w ↔
      fieldOp w = 0x0#4 ∨ 0x6#4 ≤ fieldOp w ∨ fieldRsv w ≠ 0#4 ∨ (fieldOp w = 0x1#4 ∧ fieldLenB w ≠ 0#12) ∨
        ((fieldOp w = 0x4#4 ∨ fieldOp w = 0x5#4) ∧ (fieldLenA w ≠ 0#12 ∨ fieldLenB w ≠ 0#12))) ∧
    (SelectsNoRow w ↔ ∃ why, decode w = .reserved why)) ∧
  ∀ s : State, AcceptsWord s → SelectsNoRow s.cmd →
    ∃ t, step s = .next t ∧ t.rspCode = some 0xB ∧
      engine t = engine
        { s with
          fsm := .fatal
          fatalCause := 0xB
          rsp := some ⟨.fatalIllegalCmd, 0, 0⟩
          responses := s.responses ++ [⟨.fatalIllegalCmd, 0, 0⟩] }

/-- 95_test_vectors.md section 7: words written out from the encodings, one row of the table each. -/
def Obligations.ListedWordsDecode : Prop :=
  decode 0x10000010 = .command (.keyld 16) ∧ decode 0x10000FFF = .command (.keyld 4095) ∧
  decode 0x20010010 = .command (.enc 16 16) ∧ decode 0x20FFF014 = .command (.enc 20 4095) ∧
  decode 0x3000F010 = .command (.dec 16 15) ∧ decode 0x40000000 = .command .blksz ∧
  decode 0x50000000 = .command .clr ∧ decode 0x00000000 = .reserved .unknownOp ∧
  decode 0x10001010 = .reserved .keyldLenB ∧ decode 0x11000010 = .reserved .rsvNotZero ∧
  decode 0x40000001 = .reserved .blkszLength ∧ decode 0x50010000 = .reserved .clrLength ∧
  decode 0x60000000 = .reserved .unknownOp ∧ decode 0xFFFFFFFF = .reserved .rsvNotZero

/-- Rule R59: the word and the `din` of every line of the assembler. THE MODEL'S CHOICE (log 19): that the bytes a short DEC
line does not give are 0 on `din`; R59 says so of KEYLD and ENC. -/
def Obligations.AssembledLinePresentsCommand : Prop :=
  (∀ len, (saturate len).toNat = min len 4095) ∧
  (∀ len key, decode (assemble (.keyld len key)).word = .command (.keyld (saturate len))) ∧
  (∀ slen dlen block, decode (assemble (.enc slen dlen block)).word = .command (.enc (saturate slen) (saturate dlen))) ∧
  (∀ slen dlen block, decode (assemble (.dec slen dlen block)).word = .command (.dec (saturate slen) (saturate dlen))) ∧
  (∀ (len m : Nat) (x : Block) (k : Nat) (h : k < 16),
    (bytesOfBus (assemble (.keyld len x)).din)[k] = (if k < len then x[k] else 0) ∧
    (bytesOfBus (assemble (.enc len m x)).din)[k] = (if k < len then x[k] else 0) ∧
    (bytesOfBus (assemble (.dec len m x)).din)[k] = (if k < len then x[k] else 0)) ∧
  decode (assemble .blksz).word = .command .blksz ∧ decode (assemble .clr).word = .command .clr ∧
  (∀ w, (assemble (.word w)).word = w) ∧
  (∀ x, assemble (.newCipher x) = assemble (.keyld 16 x) ∧ assemble (.encrypt x) = assemble (.enc 16 16 x) ∧
    assemble (.decrypt x) = assemble (.dec 16 16 x))

/-- Rule R55: with well-formed parameters, saturation changes no comparison the core makes. -/
def Obligations.SaturationChangesNoOutcome : Prop :=
  ∀ (p : Params) (len : Nat), p.wellFormed = true →
    (saturate len = 16#12 ↔ len = 16) ∧ (saturate len < 16#12 ↔ len < 16) ∧
    ∀ m ∈ p.unsupportedKeyLens, saturate len = m ↔ len = m.toNat

/-! The tables, G and F (rules R33 to R41, R65 to R69). -/

/-- Rules R36 to R40: the listings are the four word tables. -/
def Obligations.SubstitutionListingsAgree : Prop :=
  listingEntries ss0Listing = (List.range 256).map (fun x => sub 0 (BitVec.ofNat 8 x)) ∧
  listingEntries ss1Listing = (List.range 256).map (fun x => sub 1 (BitVec.ofNat 8 x)) ∧
  listingEntries ss2Listing = (List.range 256).map (fun x => sub 2 (BitVec.ofNat 8 x)) ∧
  listingEntries ss3Listing = (List.range 256).map (fun x => sub 3 (BitVec.ofNat 8 x))

/-- Rule R41: the round constants are rotations of 0x9E3779B9, and the sixteen listed values. -/
def Obligations.RoundConstantsRotate : Prop :=
  (∀ i, kc i = BitVec.rotateLeft 0x9E3779B9 i.toNat) ∧
  kcListing = (List.range 16).map (fun i => kc (BitVec.ofNat 4 i))

/-- Rules R65, R66: every table entry is the linear mixer of an S-box entry. -/
def Obligations.TablesMixSBoxes : Prop :=
  ∀ x : Byte, sub 0 x = mix (s1 x) 0 ∧ sub 1 x = mix (s2 x) 1 ∧ sub 2 x = mix (s1 x) 2 ∧ sub 3 x = mix (s2 x) 3

/-- Rule R66: MIX is linear over GF(2), for every rotation. -/
def Obligations.MixerIsLinear : Prop :=
  ∀ (s t : Byte) (j : Nat), mix (s ^^^ t) j = mix s j ^^^ mix t j ∧ mix 0 j = 0

/-- 95_test_vectors.md section 1: both S-boxes are permutations. -/
def Obligations.SBoxesArePermutations : Prop :=
  (∀ x y : Byte, s1 x = s1 y → x = y) ∧ (∀ x y : Byte, s2 x = s2 y → x = y)

/-- Rule R68: G and its byte form are the same function. -/
def Obligations.ByteFormOfGAgrees : Prop :=
  ∀ x : Word, g x = gBytes x

/-- Rule R69: the closed form of F, and that F sees its operands only through two XORs. -/
def Obligations.RoundFunctionClosedForm : Prop :=
  ∀ c d k0 k1 : Word,
    f c d k0 k1 =
      (g ((c ^^^ k0) + g ((c ^^^ k0) ^^^ d ^^^ k1)) +
          g (g ((c ^^^ k0) ^^^ d ^^^ k1) + g ((c ^^^ k0) + g ((c ^^^ k0) ^^^ d ^^^ k1))),
        g (g ((c ^^^ k0) ^^^ d ^^^ k1) + g ((c ^^^ k0) + g ((c ^^^ k0) ^^^ d ^^^ k1)))) ∧
    f c d k0 k1 = f (c ^^^ k0) (d ^^^ k1) 0 0

/-- Rules R42 to R44: the words a step captures from the bus are the big-endian words of the bytes on it, and the bytes of
four words leave by the lanes they came in. -/
def Obligations.BusCarriesBigEndianWords : Prop :=
  (∀ x : Bus, busWord0 x = be32 (bytesOfBus x) 0 ∧ busWord1 x = be32 (bytesOfBus x) 4 ∧
    busWord2 x = be32 (bytesOfBus x) 8 ∧ busWord3 x = be32 (bytesOfBus x) 12 ∧ busOfBytes (bytesOfBus x) = x) ∧
  (∀ b : Block, bytesOfBus (busOfBytes b) = b) ∧
  ∀ w0 w1 w2 w3 : Word, busOfBytes (bytesOfWords w0 w1 w2 w3) = w0 ++ w1 ++ w2 ++ w3

/-! The schedule and the transform as functions (rules R80, R81, R92, R94). -/

/-- Rule R81: the pairs' rotations after `n` rounds, and the full turn after sixteen. -/
def Obligations.KeyWordsTurnFully : Prop :=
  ∀ (key : Block) (rk0 : RoundKeys) (n : Nat), n ≤ 16 →
    (scheduleAfter key rk0 n).1.a ++ (scheduleAfter key rk0 n).1.b =
      BitVec.rotateRight ((KeyRegs.ofKey key).a ++ (KeyRegs.ofKey key).b) (8 * ((n + 1) / 2)) ∧
    (scheduleAfter key rk0 n).1.c ++ (scheduleAfter key rk0 n).1.d =
      BitVec.rotateLeft ((KeyRegs.ofKey key).c ++ (KeyRegs.ofKey key).d) (8 * (n / 2)) ∧
    (n = 16 → (scheduleAfter key rk0 n).1 = KeyRegs.ofKey key)

/-- Rules R75, R80: every entry of the array is written, each from the working words of its own round, so the array begun
with does not matter. -/
def Obligations.ScheduleWritesEveryEntry : Prop :=
  ∀ (key : Block) (rk0 : RoundKeys) (i : BitVec 4),
    (scheduleAfter key rk0 16).2 = keySchedule key ∧
    rkRead (keySchedule key) (rkEven i) = roundKeyEven (scheduleAfter key rk0 i.toNat).1 i ∧
    rkRead (keySchedule key) (rkOdd i) = roundKeyOdd (scheduleAfter key rk0 i.toNat).1 i

/-- Rule R94: the round-trip law, for any array of round keys and every block, in both orders. -/
def Obligations.TransformRoundTrip : Prop :=
  ∀ (rk : RoundKeys) (block : Block),
    transform rk (transform rk block .encrypt) .decrypt = block ∧
    transform rk (transform rk block .decrypt) .encrypt = block

/-- 95_test_vectors.md section 2.2: the published vectors, both ways. -/
def Obligations.PublishedVectorsReproduced : Prop :=
  VectorHolds 0x00000000000000000000000000000000 0x000102030405060708090A0B0C0D0E0F 0x5EBAC6E0054E166819AFF1CC6D346CDB ∧
  VectorHolds 0x000102030405060708090A0B0C0D0E0F 0x00000000000000000000000000000000 0xC11F22F20140505084483597E4370F43 ∧
  VectorHolds 0x4706480851E61BE85D74BFB3FD956185 0x83A2F8A288641FB9A4E9A5CC2F131C7D 0xEE54D13EBCAE706D226BC3142CD40D4A ∧
  VectorHolds 0x28DBC3BC49FFD87DCFA509B11D422BE7 0xB41E6BE2EBA84A148E2EED84593C5EC7 0x9B9B7BFCD1813CB95D0B3618F40F5122

/-! Reset (rules R22, R130, R131). -/

/-- Rules R22, R130: the reset state, but for `RK`, of which the rules state nothing. -/
def Obligations.ResetStateIsIdle : Prop :=
  AfterReset State.reset ∧ State.reset.cmdReady = true ∧ State.reset.rspValid = false ∧ State.reset.status = 0x00

/-- Rules R130, R131: a reset may come in any state and gives the reset state, no response, no `dout`; nothing is said of
`RK`. -/
def Obligations.ResetAbandonsEverything : Prop :=
  ∀ s : State, s.rstAsserted = true →
    ∃ t, step s = .next t ∧ AfterReset t ∧ t.cmdReady = true ∧ t.rspValid = false ∧ t.dout = 0 ∧ t.status = 0x00 ∧
      t.params = s.params

/-! The accept steps (rules R76, R86, R100, R102), as exec. -/

/-- Rule R76: the three outcomes of KEYLD's accept step, in the order of the rule. -/
def Obligations.KeyldAcceptStep : Prop :=
  ∀ (len : Len) (s : State),
    (len ∈ s.params.unsupportedKeyLens →
      exec (.keyld len) s = .next
        { s with
          rsp := some ⟨.errKeySizeUnsupported, len, 0⟩
          responses := s.responses ++ [⟨.errKeySizeUnsupported, len, 0⟩] }) ∧
    (len ∉ s.params.unsupportedKeyLens → len ≠ 16#12 →
      exec (.keyld len) s = .next
        { s with
          rsp := some ⟨.errKeySize, len, 0⟩
          responses := s.responses ++ [⟨.errKeySize, len, 0⟩] }) ∧
    (len ∉ s.params.unsupportedKeyLens → len = 16#12 →
      exec (.keyld len) s = .next
        { s with
          a := be32 (bytesOfBus s.din) 0
          b := be32 (bytesOfBus s.din) 4
          c := be32 (bytesOfBus s.din) 8
          d := be32 (bytesOfBus s.din) 12
          keyValid := false
          rnd := 0
          fsm := .ks
          rsp := none })

/-- Rule R86: ENC without an exception captures the block and starts the rounds with `DIR` 0. -/
def Obligations.EncStartsRounds : Prop :=
  ∀ (slen dlen : Len) (s : State), TransformAllowed slen dlen s →
    exec (.enc slen dlen) s = .next
      { s with
        l0 := be32 (bytesOfBus s.din) 0
        l1 := be32 (bytesOfBus s.din) 4
        r0 := be32 (bytesOfBus s.din) 8
        r1 := be32 (bytesOfBus s.din) 12
        dir := .encrypt
        rnd := 0
        fsm := .cr
        rsp := none }

/-- Rule R86: DEC without an exception does the same with `DIR` 1. -/
def Obligations.DecStartsRounds : Prop :=
  ∀ (slen dlen : Len) (s : State), TransformAllowed slen dlen s →
    exec (.dec slen dlen) s = .next
      { s with
        l0 := be32 (bytesOfBus s.din) 0
        l1 := be32 (bytesOfBus s.din) 4
        r0 := be32 (bytesOfBus s.din) 8
        r1 := be32 (bytesOfBus s.din) 12
        dir := .decrypt
        rnd := 0
        fsm := .cr
        rsp := none }

/-- Rules R113, R114, R116: which fatal exception ENC and DEC raise, with its code and `rsp_info`, NoKey before ShortInput
before ShortOutput. -/
def Obligations.TransformFatalExceptions : Prop :=
  ∀ (dir : Dir) (slen dlen : Len) (s : State),
    (s.keyValid = false →
      exec (transformInstr dir slen dlen) s = .next
        { s with
          fsm := .fatal
          fatalCause := 0xA
          rsp := some ⟨.fatalNoKey, 0, 0⟩
          responses := s.responses ++ [⟨.fatalNoKey, 0, 0⟩] }) ∧
    (s.keyValid = true → slen < 16#12 →
      exec (transformInstr dir slen dlen) s = .next
        { s with
          fsm := .fatal
          fatalCause := 0x8
          rsp := some ⟨.fatalShortInput, slen, 0⟩
          responses := s.responses ++ [⟨.fatalShortInput, slen, 0⟩] }) ∧
    (s.keyValid = true → 16#12 ≤ slen → dlen < 16#12 →
      exec (transformInstr dir slen dlen) s = .next
        { s with
          fsm := .fatal
          fatalCause := 0x9
          rsp := some ⟨.fatalShortOutput, dlen, 0⟩
          responses := s.responses ++ [⟨.fatalShortOutput, dlen, 0⟩] })

/-- Rule R100: BLKSZ answers 16 in every state, with or without a key, writes no state, takes one step, and is one word. -/
def Obligations.BlkszAnswersSixteen : Prop :=
  (∀ s : State,
    exec .blksz s = .next
      { s with rsp := some ⟨.ok, 16, 0⟩, responses := s.responses ++ [⟨.ok, 16, 0⟩] } ∧
    stepsOf .blksz s = 1) ∧
  encode .blksz = 0x40000000 ∧
  ∀ w : Word, fieldOp w = 0x4#4 → w ≠ 0x40000000 → ∃ why, decode w = .reserved why

/-- Rule R102: CLR zeroes every round key and the key flag and answers OK, in one step, with or without a key; nothing else
is written; it is one word; without a key ENC and DEC raise NoKey, and what ends that is the sixteenth round of a KEYLD. -/
def Obligations.ClrZeroesRoundKeys : Prop :=
  (∀ s : State,
    ∃ t, exec .clr s = .next t ∧ (∀ j, rkRead t.rk j = 0) ∧ t.keyValid = false ∧ t.rsp = some ⟨.ok, 0, 0⟩ ∧
      t = { s with rk := t.rk, keyValid := false, rsp := t.rsp, responses := s.responses ++ [⟨.ok, 0, 0⟩] } ∧
      stepsOf .clr s = 1 ∧
      ∀ dir slen dlen, exec (transformInstr dir slen dlen) t = .next (t.raiseFatal .fatalNoKey 0)) ∧
  (∀ (u : State) (dir : Dir) (slen dlen : Len), u.keyValid = false →
    exec (transformInstr dir slen dlen) u = .next (u.raiseFatal .fatalNoKey 0)) ∧
  (∀ u v : State, u.keyValid = false → step u = .next v →
    v.keyValid = false ∨
      (u.fsm = .ks ∧ u.rnd = 15 ∧ u.rstAsserted = false ∧ v.fsm = .idle ∧ v.rsp = some ⟨.ok, 0, 0⟩)) ∧
  encode .clr = 0x50000000 ∧
  ∀ w : Word, fieldOp w = 0x5#4 → w ≠ 0x50000000 → ∃ why, decode w = .reserved why

/-- Rules R76, R93, R100, R102, R119: the frame of every command's accept step. What is not named on the right is
unchanged: the host's side of the ports, the parameters and the reset counter always. -/
def Obligations.AcceptStepFrames : Prop :=
  ∀ (s t : State) (len slen dlen : Len) (dir : Dir),
    (exec (.keyld len) s = .next t →
      t = { s with
            a := t.a, b := t.b, c := t.c, d := t.d, keyValid := t.keyValid, rnd := t.rnd, fsm := t.fsm
            rsp := t.rsp, responses := t.responses } ∧
      (len ≠ 16#12 → t = { s with rsp := t.rsp, responses := t.responses })) ∧
    (exec (transformInstr dir slen dlen) s = .next t →
      (TransformAllowed slen dlen s →
        t = { s with
              l0 := t.l0, l1 := t.l1, r0 := t.r0, r1 := t.r1, dir := t.dir, rnd := t.rnd, fsm := t.fsm
              rsp := t.rsp }) ∧
      (¬ TransformAllowed slen dlen s →
        t = { s with fatalCause := t.fatalCause, fsm := t.fsm, rsp := t.rsp, responses := t.responses })) ∧
    (exec .blksz s = .next t → t = { s with rsp := t.rsp, responses := t.responses }) ∧
    (exec .clr s = .next t →
      t = { s with rk := t.rk, keyValid := t.keyValid, rsp := t.rsp, responses := t.responses })

/-! The step (rules R8, R15, R52, R78, R88). -/

/-- Rules R8, R51, R58: an accept step is exec of the decoded command, and then the host's move. THE MODEL'S CHOICE (log 4, 6,
10): this step's `rst` sample is used up and the freed port takes the host's next entry. -/
def Obligations.StepRunsDecodedCommand : Prop :=
  ∀ (i : Instr) (s : State), Accepts i s →
    ∃ u t, exec i s = .next u ∧ step s = .next t ∧ engine t = engine u ∧ t.rst = s.rst.tail ∧
      (s.pending = [] → t.cmdValid = false ∧ t.pending = []) ∧
      (∀ rest, s.pending = none :: rest → t.cmdValid = false ∧ t.pending = rest) ∧
      (∀ c rest, s.pending = some c :: rest →
        t.cmdValid = true ∧ t.cmd = c.word ∧ t.din = c.din ∧ t.pending = rest)

/-- Rule R78: the key-schedule round step, from every state with `FSM = KS`. -/
def Obligations.KeyScheduleRoundStep : Prop :=
  ∀ s : State, s.fsm = .ks → s.rstAsserted = false →
    ∃ t, step s = .next t ∧
      rkRead t.rk (rkEven s.rnd) = g (s.a + s.c - kc s.rnd) ∧
      rkRead t.rk (rkOdd s.rnd) = g (s.b - s.d + kc s.rnd) ∧
      (∀ j, j ≠ rkEven s.rnd → j ≠ rkOdd s.rnd → rkRead t.rk j = rkRead s.rk j) ∧
      (s.rnd.toNat < 15 →
        engine t = engine
          { s with a := t.a, b := t.b, c := t.c, d := t.d, rk := t.rk, rnd := s.rnd + 1, rsp := none } ∧
        (s.rnd.toNat % 2 = 0 →
          t.a = s.a >>> 8 ||| (s.b.extractLsb' 0 8).setWidth 32 <<< 24 ∧
          t.b = s.b >>> 8 ||| (s.a.extractLsb' 0 8).setWidth 32 <<< 24 ∧
          t.a ++ t.b = ror64by8 (s.a ++ s.b) ∧ t.c = s.c ∧ t.d = s.d) ∧
        (s.rnd.toNat % 2 = 1 →
          t.c = s.c <<< 8 ||| s.d >>> 24 ∧ t.d = s.d <<< 8 ||| s.c >>> 24 ∧
          t.c ++ t.d = rol64by8 (s.c ++ s.d) ∧ t.a = s.a ∧ t.b = s.b)) ∧
      (s.rnd = 15 →
        engine t = engine
          { s with
            a := 0, b := 0, c := 0, d := 0, rk := t.rk, keyValid := true, rnd := 0, fsm := .idle
            rsp := some ⟨.ok, 0, 0⟩, responses := s.responses ++ [⟨.ok, 0, 0⟩] })

/-- Rule R88: the Feistel round step, from every state with `FSM = CR`; the sixteenth round does not swap. -/
def Obligations.FeistelRoundStep : Prop :=
  ∀ (s : State) (i : BitVec 4), s.fsm = .cr → s.rstAsserted = false →
    (i = match s.dir with
      | .encrypt => s.rnd
      | .decrypt => 15 - s.rnd) →
    ∃ t, step s = .next t ∧
      (s.rnd.toNat < 15 →
        engine t = engine
          { s with
            l0 := s.r0
            l1 := s.r1
            r0 := s.l0 ^^^ (f s.r0 s.r1 (rkRead s.rk (rkEven i)) (rkRead s.rk (rkOdd i))).1
            r1 := s.l1 ^^^ (f s.r0 s.r1 (rkRead s.rk (rkEven i)) (rkRead s.rk (rkOdd i))).2
            rnd := s.rnd + 1
            rsp := none }) ∧
      (s.rnd = 15 →
        ∀ out : Bus,
          out = (s.l0 ^^^ (f s.r0 s.r1 (rkRead s.rk (rkEven i)) (rkRead s.rk (rkOdd i))).1) ++
              (s.l1 ^^^ (f s.r0 s.r1 (rkRead s.rk (rkEven i)) (rkRead s.rk (rkOdd i))).2) ++ s.r0 ++ s.r1 →
          engine t = engine
            { s with
              l0 := 0, l1 := 0, r0 := 0, r1 := 0, rnd := 0, fsm := .idle
              rsp := some ⟨.ok, 0, out⟩, responses := s.responses ++ [⟨.ok, 0, out⟩] })

/-- Rule R15: the encoding of `FSM` and every transition a step can take. THE MODEL'S CHOICE (rule R126, log 8; log 9): a
step in `IDLE` with no command, which stays in `IDLE`, and the steps in `FATAL` that wait for a reset are no rows of the
table. -/
def Obligations.SequencerTransitions : Prop :=
  (Fsm.idle.bits = 0 ∧ Fsm.ks.bits = 1 ∧ Fsm.cr.bits = 2 ∧ Fsm.fatal.bits = 3) ∧
  ∀ s t : State, step s = .next t → Transition s t

/-- Rules R52, R135: outside `IDLE` the core is not ready, and a presented command waits, unchanged. THE MODEL'S CHOICE: it
stays presented through a reset step too (log 10), and what the host will present after it stays (log 4, 6). -/
def Obligations.PresentedCommandWaits : Prop :=
  ∀ s t : State, s.fsm ≠ .idle → step s = .next t →
    s.cmdReady = false ∧
    (s.cmdValid = true → t.cmdValid = true ∧ t.cmd = s.cmd ∧ t.din = s.din ∧ t.pending = s.pending)

/-- Rules R15, R52, R119, R121: `FATAL` is left by reset alone. THE MODEL'S CHOICE (log 9): while one is to come the engine
waits, all else unchanged; when none is, no step is enabled and the step is a fault. -/
def Obligations.FatalIsLeftByResetAlone : Prop :=
  ∀ s : State, s.fsm = .fatal → s.rstAsserted = false →
    (s.resetToCome = true → ∃ t, step s = .next t ∧ engine t = engine { s with rsp := none }) ∧
    (s.resetToCome = false → step s = .fault .stuckInFatal)

/-- Rules R142, R117: no step of a command blocks. THE MODEL'S CHOICE (rule R126, log 8): a step in `IDLE` with no command
answers a next state as well, so that every step outside `FATAL` does. -/
def Obligations.StepStopsOnlyInFatal : Prop :=
  ∀ s : State,
    (s.fsm ≠ .fatal ∨ s.rstAsserted = true → ∃ t, step s = .next t) ∧
    ∀ r, step s ≠ .refused r

/-- Rule R126: `IDLE` is the absence of a command and keeps all state. THE MODEL'S CHOICE (log 8): this is a next state. -/
def Obligations.IdleKeepsState : Prop :=
  ∀ s : State, s.fsm = .idle → s.cmdValid = false → s.rstAsserted = false →
    ∃ t, step s = .next t ∧ engine t = engine { s with rsp := none }

/-- THE MODEL'S CHOICE (log 11: the OPEN parameters of rule R3 are carried by the state and fixed; log 3: the reset counter
changes at a reset alone). -/
def Obligations.ParametersNeverChange : Prop :=
  ∀ s t : State, step s = .next t →
    t.params = s.params ∧ (s.rstAsserted = false → t.resets = s.resets)

/-! Exceptions, outputs (rules R17, R53, R110, R119, R122). -/

/-- Rule R119: what a step that enters `FATAL` writes, and that it writes nothing else. -/
def Obligations.FatalEntryWritesCauseAlone : Prop :=
  ∀ s t : State, step s = .next t → s.fsm ≠ .fatal → t.fsm = .fatal →
    ∃ code info, RspCode.isFatal code = true ∧
      engine t = engine
        { s with
          fsm := .fatal
          fatalCause := code.bits
          rsp := some ⟨code, info, 0⟩
          responses := s.responses ++ [⟨code, info, 0⟩] } ∧
      t.cmdReady = false ∧ t.status.getLsbD 2 = true ∧ t.status.extractLsb' 4 4 = code.bits

/-- Rules R111, R112, R120, R122: a wrong key length is a value returned to the caller and leaves the engine as it was and
ready. -/
def Obligations.WrongKeyLengthIsRecoverable : Prop :=
  ∀ (len : Len) (s : State), Accepts (.keyld len) s → len ≠ 16#12 →
    ∃ t code, step s = .next t ∧
      code = (if len ∈ s.params.unsupportedKeyLens then RspCode.errKeySizeUnsupported else RspCode.errKeySize) ∧
      engine t = engine { s with rsp := some ⟨code, len, 0⟩, responses := s.responses ++ [⟨code, len, 0⟩] } ∧
      t.cmdReady = true

/-- Rule R110: the numbers of the codes, and that bit 3 marks the fatal class. -/
def Obligations.ResponseCodeNumbers : Prop :=
  RspCode.ok.bits = 0x0 ∧ RspCode.errKeySize.bits = 0x1 ∧ RspCode.errKeySizeUnsupported.bits = 0x2 ∧
  RspCode.fatalShortInput.bits = 0x8 ∧ RspCode.fatalShortOutput.bits = 0x9 ∧ RspCode.fatalNoKey.bits = 0xA ∧
  RspCode.fatalIllegalCmd.bits = 0xB ∧ ∀ c : RspCode, c.bits.getLsbD 3 = c.isFatal

/-- Rule R17: `STATUS`, bit by bit. -/
def Obligations.StatusVectorBits : Prop :=
  ∀ s : State,
    (s.status.getLsbD 0 = true ↔ s.fsm = .ks ∨ s.fsm = .cr) ∧
    s.status.getLsbD 1 = s.keyValid ∧
    (s.status.getLsbD 2 = true ↔ s.fsm = .fatal) ∧
    s.status.getLsbD 3 = false ∧
    s.status.extractLsb' 4 4 = s.fatalCause

/-- Rule R53: a step emits at most one response, a response comes only from an accept step or a sixteenth round, and
`dout` is 0 unless the response is the OK of ENC or DEC. -/
def Obligations.ResponsesAreEmittedOnce : Prop :=
  ∀ s t : State, step s = .next t → s.rstAsserted = false →
    t.responses = s.responses ++ t.rsp.toList ∧
    (t.rsp ≠ none → AcceptsWord s ∨ ((s.fsm = .ks ∨ s.fsm = .cr) ∧ s.rnd = 15)) ∧
    (t.dout ≠ 0 → s.fsm = .cr ∧ s.rnd = 15 ∧ t.rspCode = some 0x0)

/-! Whole-machine rules (rules R16, R19, R20, R141). -/

/-- Rule R19: the round-key array is written by the schedule, by CLR and by reset, and by nothing else. -/
def Obligations.RoundKeyWriters : Prop :=
  ∀ s t : State, step s = .next t → t.rk ≠ s.rk →
    s.rstAsserted = true ∨ s.fsm = .ks ∨ Accepts .clr s

/-- Rule R16: what writes `KEY_VALID`, and the value it writes. -/
def Obligations.KeyValidWriters : Prop :=
  ∀ s t : State, step s = .next t → t.keyValid ≠ s.keyValid →
    (t.keyValid = true → s.rstAsserted = false ∧ s.fsm = .ks ∧ s.rnd = 15 ∧ t.fsm = .idle) ∧
    (t.keyValid = false → s.rstAsserted = true ∨ Accepts .clr s ∨ (Accepts (.keyld 16#12) s ∧ t.fsm = .ks))

/-- Rule R20: outside a transform, no output depends on the round keys or on the key-schedule registers. -/
def Obligations.KeyMaterialStaysInside : Prop :=
  ∀ (s u : State) (rk : RoundKeys) (k : KeyRegs),
    s.fsm ≠ .cr → u = State.setKeyRegs { s with rk := rk } k →
    (step s = .fault .stuckInFatal ∧ step u = .fault .stuckInFatal) ∨
    ∃ t v, step s = .next t ∧ step u = .next v ∧ t.rsp = v.rsp ∧ t.status = v.status ∧ t.cmdReady = v.cmdReady

/-- Rule R141: the sequencer's course, and the code and length of every response, do not depend on any bit of the key, of
`RK`, of `din` or of the working registers. -/
def Obligations.ControlIgnoresData : Prop :=
  ∀ (s u : State) (din : Bus) (rk : RoundKeys) (k : KeyRegs) (h : Halves),
    u = State.setHalves (State.setKeyRegs { s with din := din, rk := rk } k) h →
    (step s = .fault .stuckInFatal ∧ step u = .fault .stuckInFatal) ∨
    ∃ t v, step s = .next t ∧ step u = .next v ∧ t.fsm = v.fsm ∧ t.rnd = v.rnd ∧ t.dir = v.dir ∧
      t.keyValid = v.keyValid ∧ t.fatalCause = v.fatalCause ∧ t.rspCode = v.rspCode ∧ t.rspInfo = v.rspInfo

/-! Invariants (rules R14, R18, R21, R23). -/

/-- Rule R23 at reset. -/
def Obligations.ResetMeetsInvariant : Prop :=
  Inv State.reset

/-- Rules R21, R23 (c), (d), (e): every step keeps the registers at rest outside their activity, the fatal record and the
key flag's fit. -/
def Obligations.StepKeepsSequencerInvariant : Prop :=
  ∀ s t : State, RestingRegisters s ∧ CauseRecorded s ∧ KeyFlagFits s → step s = .next t →
    RestingRegisters t ∧ CauseRecorded t ∧ KeyFlagFits t

/-- Rule R23 (b): every step keeps the whole invariant, the schedule in the round-key array among it. -/
def Obligations.StepKeepsInvariant : Prop :=
  ∀ s t : State, Inv s → step s = .next t → Inv t

/-! Whole commands (rules R75, R80, R85, R90, R92, R140). -/

/-- Rule R80: KEYLD's accept step and sixteen round steps, from any state with `FSM = IDLE`. -/
def Obligations.KeyldComputesSchedule : Prop :=
  ∀ s : State, Accepts (.keyld 16#12) s → NoResetFor 17 s → 16#12 ∉ s.params.unsupportedKeyLens →
    ∃ t, Sys2Proof.core.run 17 s = .next t ∧
      engine t = engine
        { s with
          rk := keySchedule (bytesOfBus s.din)
          keyValid := true
          fsm := .idle
          rnd := 0
          a := 0
          b := 0
          c := 0
          d := 0
          rsp := some ⟨.ok, 0, 0⟩
          responses := s.responses ++ [⟨.ok, 0, 0⟩] }

/-- Rule R92: the accept step of ENC or DEC and sixteen round steps, from any state with `FSM = IDLE`. -/
def Obligations.TransformCommandComputesTransform : Prop :=
  ∀ (dir : Dir) (slen dlen : Len) (s : State) (out : Bus),
    Accepts (transformInstr dir slen dlen) s → NoResetFor 17 s → TransformAllowed slen dlen s →
    out = busOfBytes (transform s.rk (bytesOfBus s.din) dir) →
    ∃ t, Sys2Proof.core.run 17 s = .next t ∧
      engine t = engine
        { s with
          fsm := .idle
          rnd := 0
          dir := dir
          l0 := 0
          l1 := 0
          r0 := 0
          r1 := 0
          rsp := some ⟨.ok, 0, out⟩
          responses := s.responses ++ [⟨.ok, 0, out⟩] }

/-- Rules R52, R92, R94: ENC and then DEC of its `dout`, presented one after the other, gives the block back and leaves the
round keys. THE MODEL'S CHOICE (log 4, 6): the waiting entry of `pending` is on the port as soon as ENC is accepted, on
which the count of 34 steps rests. -/
def Obligations.EncThenDecGivesBlockBack : Prop :=
  ∀ (slen dlen slen' dlen' : Len) (s : State) (c : Command) (rest : List (Option Command)),
    Accepts (.enc slen dlen) s → NoResetFor 34 s → TransformAllowed slen dlen s →
    s.pending = some c :: rest → decode c.word = .command (.dec slen' dlen') → 16#12 ≤ slen' → 16#12 ≤ dlen' →
    c.din = busOfBytes (transform s.rk (bytesOfBus s.din) .encrypt) →
    ∃ t, Sys2Proof.core.run 34 s = .next t ∧ t.rsp = some ⟨.ok, 0, s.din⟩ ∧ t.rk = s.rk ∧ t.keyValid = true ∧
      t.fsm = .idle

/-- Rules R53, R140, R142: every accepted word is answered, once, in the step count of its row, at most 17, and not
before. -/
def Obligations.CommandsAnswerInStepCount : Prop :=
  ∀ s : State, AcceptsWord s → NoResetFor 17 s →
    stepsOfWord s.cmd s ≤ 17 ∧
    (∃ t r, Sys2Proof.core.run (stepsOfWord s.cmd s) s = .next t ∧ t.busy = false ∧ t.rsp = some r ∧
      t.responses = s.responses ++ [r]) ∧
    ∀ k, 1 ≤ k → k < stepsOfWord s.cmd s →
      ∃ u, Sys2Proof.core.run k s = .next u ∧ u.busy = true ∧ u.rsp = none ∧ u.responses = s.responses

/-- Rules R21, R95: what a command answers and leaves for the next is a function of (`KEY_VALID`, `RK`, the command word,
`din`) and the parameters only. -/
def Obligations.ResultFromVisibleInputs : Prop :=
  ∀ s u : State, AcceptsWord s → AcceptsWord u → NoResetFor 17 s → NoResetFor 17 u →
    s.keyValid = u.keyValid → s.rk = u.rk → s.cmd = u.cmd → s.din = u.din → s.params = u.params →
    ∃ t v, Sys2Proof.core.run (stepsOfWord s.cmd s) s = .next t ∧ Sys2Proof.core.run (stepsOfWord s.cmd s) u = .next v ∧
      t.rsp = v.rsp ∧ t.keyValid = v.keyValid ∧ t.rk = v.rk ∧ t.fsm = v.fsm

/-! The parameters no rule depends on (rules R3, R8). -/

/-- Rules R3, R8 (and U11 of 93_implementation_defined.md, "no rule depends on them"): with other values of CYCLES_PER_STEP,
RESET_STYLE and HOST_BUS_MAP every step, accept step and step count is the same. -/
def Obligations.OpenParametersChangeNothing : Prop :=
  ∀ (cycles : Nat) (style : ResetStyle) (map : HostBusMap) (s : State),
    step (retune cycles style map s) = mapNext (retune cycles style map) (step s) ∧
    (∀ i, exec i (retune cycles style map s) = mapNext (retune cycles style map) (exec i s)) ∧
    ∀ w, stepsOfWord w (retune cycles style map s) = stepsOfWord w s
end

