-- ==== Sys2Proof/Laws/Decode.lean ====
section
/-! SUPPORT. The bits and the fields of a packed command word (rule R54), and the masks of the opcode map on one (rule R56). -/

namespace Sys2Proof

theorem getLsbD_packWord (op : BitVec 4) (b a : Len) (i : Nat) :
    (packWord op b a).getLsbD i =
      if i < 12 then a.getLsbD i
      else if i < 24 then b.getLsbD (i - 12)
      else if i < 28 then false
      else op.getLsbD (i - 28) := by
  change BitVec.getLsbD (w := 4 + 4 + 12 + 12) (op ++ 0#4 ++ b ++ a) i = _
  simp only [BitVec.getLsbD_append, BitVec.getLsbD_zero]
  by_cases h1 : i < 12
  · rw [if_pos h1, if_pos h1]
  · rw [if_neg h1, if_neg h1]
    by_cases h2 : i < 24
    · rw [if_pos (by omega), if_pos h2]
    · rw [if_neg (by omega), if_neg h2]
      by_cases h3 : i < 28
      · rw [if_pos (by omega), if_pos h3]
      · rw [if_neg (by omega), if_neg h3]
        congr 1

theorem fieldOp_packWord (op : BitVec 4) (b a : Len) : fieldOp (packWord op b a) = op := by
  ext i hi
  simp [fieldOp, getLsbD_packWord, show ¬ 28 + i < 12 by omega, show ¬ 28 + i < 24 by omega, BitVec.getLsbD_eq_getElem hi]

theorem fieldRsv_packWord (op : BitVec 4) (b a : Len) : fieldRsv (packWord op b a) = 0#4 := by
  ext i hi
  simp [fieldRsv, getLsbD_packWord, show ¬ 24 + i < 12 by omega, show 24 + i < 28 by omega]

theorem fieldLenB_packWord (op : BitVec 4) (b a : Len) : fieldLenB (packWord op b a) = b := by
  ext i hi
  simp [fieldLenB, getLsbD_packWord, show 12 + i < 24 by omega, BitVec.getLsbD_eq_getElem hi]

theorem fieldLenA_packWord (op : BitVec 4) (b a : Len) : fieldLenA (packWord op b a) = a := by
  ext i hi
  simp [fieldLenA, getLsbD_packWord, hi]

/-- The mask of ENC and DEC keeps `OP` and `RSV`. -/
theorem packWord_mask_head (op : BitVec 4) (b a : Len) :
    packWord op b a &&& 0xFF000000#32 = packWord op 0#12 0#12 := by
  apply BitVec.eq_of_getLsbD_eq
  intro i hi
  rw [BitVec.getLsbD_and, getLsbD_packWord, getLsbD_packWord]
  interval_cases i <;> simp

/-- The mask of KEYLD keeps `OP`, `RSV` and `LEN_B`. -/
theorem packWord_mask_lenB (op : BitVec 4) (b a : Len) :
    packWord op b a &&& 0xFFFFF000#32 = packWord op b 0#12 := by
  apply BitVec.eq_of_getLsbD_eq
  intro i hi
  rw [BitVec.getLsbD_and, getLsbD_packWord, getLsbD_packWord]
  interval_cases i <;> simp

end Sys2Proof
end

