-- ==== Sys2Proof/Laws/Operands.lean ====
section
/-! SUPPORT. The bits of the operand forms, and the lanes of the tables. -/

namespace Sys2Proof.Machine

/-- A big-endian word is its four bytes side by side (rule R6). -/
theorem be32_eq_append (b : Block) (k : Nat) (h : k + 3 < 16) :
    be32 b k h = b[k] ++ b[k + 1] ++ b[k + 2] ++ b[k + 3] := by
  unfold be32
  generalize b[k] = w, b[k + 1] = x, b[k + 2] = y, b[k + 3] = z
  apply BitVec.eq_of_getLsbD_eq
  intro i hi
  change _ = BitVec.getLsbD (w := 8 + 8 + 8 + 8) (w ++ x ++ y ++ z) i
  simp only [BitVec.getLsbD_append, BitVec.getLsbD_or, BitVec.getLsbD_shiftLeft, BitVec.getLsbD_setWidth]
  interval_cases i <;> simp

/-- Lane `n` of a mixed byte is the byte under mask `n + j` (rule R66). -/
theorem getLsbD_mix (s : Byte) (j i : Nat) :
    (mix s j).getLsbD i =
      if i < 8 then (s &&& maskAt (0 + j)).getLsbD i
      else if i < 16 then (s &&& maskAt (1 + j)).getLsbD (i - 8)
      else if i < 24 then (s &&& maskAt (2 + j)).getLsbD (i - 16)
      else (s &&& maskAt (3 + j)).getLsbD (i - 24) := by
  change BitVec.getLsbD (w := 8 + 8 + 8 + 8) (_ ++ _ ++ _ ++ _) i = _
  simp only [BitVec.getLsbD_append]
  by_cases h1 : i < 8
  · rw [if_pos h1, if_pos h1]
  · rw [if_neg h1, if_neg h1]
    by_cases h2 : i < 16
    · rw [if_pos (by omega), if_pos h2]
    · rw [if_neg (by omega), if_neg h2]
      by_cases h3 : i < 24
      · rw [if_pos (by omega), if_pos h3]; congr 1
      · rw [if_neg (by omega), if_neg h3]; congr 1

/-- F reads its first operand and the first key word only through their XOR, and likewise the second (rule R69). -/
theorem f_congr (c d k0 k1 c' d' k0' k1' : Word) (h0 : c ^^^ k0 = c' ^^^ k0') (h1 : d ^^^ k1 = d' ^^^ k1') :
    f c d k0 k1 = f c' d' k0' k1' := by
  unfold f
  rw [h0, h1]

/-- Adding `F` into Left twice with one pair of keys gives the words back: F reads Right, which stays (rules R88, R94). -/
theorem mixLeft_mixLeft (rk : RoundKeys) (i : BitVec 4) (h : Halves) : mixLeft rk i (mixLeft rk i h) = h := by
  simp [mixLeft]

theorem Halves.swap_swap (h : Halves) : h.swap.swap = h := rfl

end Sys2Proof.Machine
end

