-- ==== Sys2Proof/Laws/State.lean ====
section
/-! SUPPORT. For each operation on the state, what it does to each field: one lemma a field, so that no proof unfolds a record
update. -/

namespace Sys2Proof.Machine

/-! Responding and exceptions (rules R53, R119, R120). -/

@[simp] theorem respond_fsm (s : State) (r : Response) : (s.respond r).fsm = s.fsm := rfl
@[simp] theorem respond_rnd (s : State) (r : Response) : (s.respond r).rnd = s.rnd := rfl
@[simp] theorem respond_dir (s : State) (r : Response) : (s.respond r).dir = s.dir := rfl
@[simp] theorem respond_keyValid (s : State) (r : Response) : (s.respond r).keyValid = s.keyValid := rfl
@[simp] theorem respond_fatalCause (s : State) (r : Response) : (s.respond r).fatalCause = s.fatalCause := rfl
@[simp] theorem respond_a (s : State) (r : Response) : (s.respond r).a = s.a := rfl
@[simp] theorem respond_b (s : State) (r : Response) : (s.respond r).b = s.b := rfl
@[simp] theorem respond_c (s : State) (r : Response) : (s.respond r).c = s.c := rfl
@[simp] theorem respond_d (s : State) (r : Response) : (s.respond r).d = s.d := rfl
@[simp] theorem respond_l0 (s : State) (r : Response) : (s.respond r).l0 = s.l0 := rfl
@[simp] theorem respond_l1 (s : State) (r : Response) : (s.respond r).l1 = s.l1 := rfl
@[simp] theorem respond_r0 (s : State) (r : Response) : (s.respond r).r0 = s.r0 := rfl
@[simp] theorem respond_r1 (s : State) (r : Response) : (s.respond r).r1 = s.r1 := rfl
@[simp] theorem respond_rk (s : State) (r : Response) : (s.respond r).rk = s.rk := rfl
@[simp] theorem respond_params (s : State) (r : Response) : (s.respond r).params = s.params := rfl
@[simp] theorem respond_rst (s : State) (r : Response) : (s.respond r).rst = s.rst := rfl
@[simp] theorem respond_cmdValid (s : State) (r : Response) : (s.respond r).cmdValid = s.cmdValid := rfl
@[simp] theorem respond_cmd (s : State) (r : Response) : (s.respond r).cmd = s.cmd := rfl
@[simp] theorem respond_din (s : State) (r : Response) : (s.respond r).din = s.din := rfl
@[simp] theorem respond_pending (s : State) (r : Response) : (s.respond r).pending = s.pending := rfl
@[simp] theorem respond_rsp (s : State) (r : Response) : (s.respond r).rsp = some r := rfl
@[simp] theorem respond_responses (s : State) (r : Response) : (s.respond r).responses = s.responses ++ [r] := rfl
@[simp] theorem respond_resets (s : State) (r : Response) : (s.respond r).resets = s.resets := rfl

@[simp] theorem noResponse_fsm (s : State) : (s.noResponse).fsm = s.fsm := rfl
@[simp] theorem noResponse_rnd (s : State) : (s.noResponse).rnd = s.rnd := rfl
@[simp] theorem noResponse_dir (s : State) : (s.noResponse).dir = s.dir := rfl
@[simp] theorem noResponse_keyValid (s : State) : (s.noResponse).keyValid = s.keyValid := rfl
@[simp] theorem noResponse_fatalCause (s : State) : (s.noResponse).fatalCause = s.fatalCause := rfl
@[simp] theorem noResponse_a (s : State) : (s.noResponse).a = s.a := rfl
@[simp] theorem noResponse_b (s : State) : (s.noResponse).b = s.b := rfl
@[simp] theorem noResponse_c (s : State) : (s.noResponse).c = s.c := rfl
@[simp] theorem noResponse_d (s : State) : (s.noResponse).d = s.d := rfl
@[simp] theorem noResponse_l0 (s : State) : (s.noResponse).l0 = s.l0 := rfl
@[simp] theorem noResponse_l1 (s : State) : (s.noResponse).l1 = s.l1 := rfl
@[simp] theorem noResponse_r0 (s : State) : (s.noResponse).r0 = s.r0 := rfl
@[simp] theorem noResponse_r1 (s : State) : (s.noResponse).r1 = s.r1 := rfl
@[simp] theorem noResponse_rk (s : State) : (s.noResponse).rk = s.rk := rfl
@[simp] theorem noResponse_params (s : State) : (s.noResponse).params = s.params := rfl
@[simp] theorem noResponse_rst (s : State) : (s.noResponse).rst = s.rst := rfl
@[simp] theorem noResponse_cmdValid (s : State) : (s.noResponse).cmdValid = s.cmdValid := rfl
@[simp] theorem noResponse_cmd (s : State) : (s.noResponse).cmd = s.cmd := rfl
@[simp] theorem noResponse_din (s : State) : (s.noResponse).din = s.din := rfl
@[simp] theorem noResponse_pending (s : State) : (s.noResponse).pending = s.pending := rfl
@[simp] theorem noResponse_rsp (s : State) : (s.noResponse).rsp = none := rfl
@[simp] theorem noResponse_responses (s : State) : (s.noResponse).responses = s.responses := rfl
@[simp] theorem noResponse_resets (s : State) : (s.noResponse).resets = s.resets := rfl

@[simp] theorem respondOk_fsm (s : State) (n : BitVec 12) (x : Bus) : (s.respondOk n x).fsm = s.fsm := rfl
@[simp] theorem respondOk_rnd (s : State) (n : BitVec 12) (x : Bus) : (s.respondOk n x).rnd = s.rnd := rfl
@[simp] theorem respondOk_dir (s : State) (n : BitVec 12) (x : Bus) : (s.respondOk n x).dir = s.dir := rfl
@[simp] theorem respondOk_keyValid (s : State) (n : BitVec 12) (x : Bus) : (s.respondOk n x).keyValid = s.keyValid := rfl
@[simp] theorem respondOk_fatalCause (s : State) (n : BitVec 12) (x : Bus) : (s.respondOk n x).fatalCause = s.fatalCause := rfl
@[simp] theorem respondOk_a (s : State) (n : BitVec 12) (x : Bus) : (s.respondOk n x).a = s.a := rfl
@[simp] theorem respondOk_b (s : State) (n : BitVec 12) (x : Bus) : (s.respondOk n x).b = s.b := rfl
@[simp] theorem respondOk_c (s : State) (n : BitVec 12) (x : Bus) : (s.respondOk n x).c = s.c := rfl
@[simp] theorem respondOk_d (s : State) (n : BitVec 12) (x : Bus) : (s.respondOk n x).d = s.d := rfl
@[simp] theorem respondOk_l0 (s : State) (n : BitVec 12) (x : Bus) : (s.respondOk n x).l0 = s.l0 := rfl
@[simp] theorem respondOk_l1 (s : State) (n : BitVec 12) (x : Bus) : (s.respondOk n x).l1 = s.l1 := rfl
@[simp] theorem respondOk_r0 (s : State) (n : BitVec 12) (x : Bus) : (s.respondOk n x).r0 = s.r0 := rfl
@[simp] theorem respondOk_r1 (s : State) (n : BitVec 12) (x : Bus) : (s.respondOk n x).r1 = s.r1 := rfl
@[simp] theorem respondOk_rk (s : State) (n : BitVec 12) (x : Bus) : (s.respondOk n x).rk = s.rk := rfl
@[simp] theorem respondOk_params (s : State) (n : BitVec 12) (x : Bus) : (s.respondOk n x).params = s.params := rfl
@[simp] theorem respondOk_rst (s : State) (n : BitVec 12) (x : Bus) : (s.respondOk n x).rst = s.rst := rfl
@[simp] theorem respondOk_cmdValid (s : State) (n : BitVec 12) (x : Bus) : (s.respondOk n x).cmdValid = s.cmdValid := rfl
@[simp] theorem respondOk_cmd (s : State) (n : BitVec 12) (x : Bus) : (s.respondOk n x).cmd = s.cmd := rfl
@[simp] theorem respondOk_din (s : State) (n : BitVec 12) (x : Bus) : (s.respondOk n x).din = s.din := rfl
@[simp] theorem respondOk_pending (s : State) (n : BitVec 12) (x : Bus) : (s.respondOk n x).pending = s.pending := rfl
@[simp] theorem respondOk_rsp (s : State) (n : BitVec 12) (x : Bus) : (s.respondOk n x).rsp = some ⟨.ok, n, x⟩ := rfl
@[simp] theorem respondOk_responses (s : State) (n : BitVec 12) (x : Bus) : (s.respondOk n x).responses = s.responses ++ [⟨.ok, n, x⟩] := rfl
@[simp] theorem respondOk_resets (s : State) (n : BitVec 12) (x : Bus) : (s.respondOk n x).resets = s.resets := rfl

@[simp] theorem raiseFatal_fsm (s : State) (e : RspCode) (n : BitVec 12) : (s.raiseFatal e n).fsm = .fatal := rfl
@[simp] theorem raiseFatal_rnd (s : State) (e : RspCode) (n : BitVec 12) : (s.raiseFatal e n).rnd = s.rnd := rfl
@[simp] theorem raiseFatal_dir (s : State) (e : RspCode) (n : BitVec 12) : (s.raiseFatal e n).dir = s.dir := rfl
@[simp] theorem raiseFatal_keyValid (s : State) (e : RspCode) (n : BitVec 12) : (s.raiseFatal e n).keyValid = s.keyValid := rfl
@[simp] theorem raiseFatal_fatalCause (s : State) (e : RspCode) (n : BitVec 12) : (s.raiseFatal e n).fatalCause = e.bits := rfl
@[simp] theorem raiseFatal_a (s : State) (e : RspCode) (n : BitVec 12) : (s.raiseFatal e n).a = s.a := rfl
@[simp] theorem raiseFatal_b (s : State) (e : RspCode) (n : BitVec 12) : (s.raiseFatal e n).b = s.b := rfl
@[simp] theorem raiseFatal_c (s : State) (e : RspCode) (n : BitVec 12) : (s.raiseFatal e n).c = s.c := rfl
@[simp] theorem raiseFatal_d (s : State) (e : RspCode) (n : BitVec 12) : (s.raiseFatal e n).d = s.d := rfl
@[simp] theorem raiseFatal_l0 (s : State) (e : RspCode) (n : BitVec 12) : (s.raiseFatal e n).l0 = s.l0 := rfl
@[simp] theorem raiseFatal_l1 (s : State) (e : RspCode) (n : BitVec 12) : (s.raiseFatal e n).l1 = s.l1 := rfl
@[simp] theorem raiseFatal_r0 (s : State) (e : RspCode) (n : BitVec 12) : (s.raiseFatal e n).r0 = s.r0 := rfl
@[simp] theorem raiseFatal_r1 (s : State) (e : RspCode) (n : BitVec 12) : (s.raiseFatal e n).r1 = s.r1 := rfl
@[simp] theorem raiseFatal_rk (s : State) (e : RspCode) (n : BitVec 12) : (s.raiseFatal e n).rk = s.rk := rfl
@[simp] theorem raiseFatal_params (s : State) (e : RspCode) (n : BitVec 12) : (s.raiseFatal e n).params = s.params := rfl
@[simp] theorem raiseFatal_rst (s : State) (e : RspCode) (n : BitVec 12) : (s.raiseFatal e n).rst = s.rst := rfl
@[simp] theorem raiseFatal_cmdValid (s : State) (e : RspCode) (n : BitVec 12) : (s.raiseFatal e n).cmdValid = s.cmdValid := rfl
@[simp] theorem raiseFatal_cmd (s : State) (e : RspCode) (n : BitVec 12) : (s.raiseFatal e n).cmd = s.cmd := rfl
@[simp] theorem raiseFatal_din (s : State) (e : RspCode) (n : BitVec 12) : (s.raiseFatal e n).din = s.din := rfl
@[simp] theorem raiseFatal_pending (s : State) (e : RspCode) (n : BitVec 12) : (s.raiseFatal e n).pending = s.pending := rfl
@[simp] theorem raiseFatal_rsp (s : State) (e : RspCode) (n : BitVec 12) : (s.raiseFatal e n).rsp = some ⟨e, n, 0⟩ := rfl
@[simp] theorem raiseFatal_responses (s : State) (e : RspCode) (n : BitVec 12) : (s.raiseFatal e n).responses = s.responses ++ [⟨e, n, 0⟩] := rfl
@[simp] theorem raiseFatal_resets (s : State) (e : RspCode) (n : BitVec 12) : (s.raiseFatal e n).resets = s.resets := rfl

@[simp] theorem raiseRecoverable_fsm (s : State) (e : RspCode) (n : BitVec 12) : (s.raiseRecoverable e n).fsm = s.fsm := rfl
@[simp] theorem raiseRecoverable_rnd (s : State) (e : RspCode) (n : BitVec 12) : (s.raiseRecoverable e n).rnd = s.rnd := rfl
@[simp] theorem raiseRecoverable_dir (s : State) (e : RspCode) (n : BitVec 12) : (s.raiseRecoverable e n).dir = s.dir := rfl
@[simp] theorem raiseRecoverable_keyValid (s : State) (e : RspCode) (n : BitVec 12) : (s.raiseRecoverable e n).keyValid = s.keyValid := rfl
@[simp] theorem raiseRecoverable_fatalCause (s : State) (e : RspCode) (n : BitVec 12) : (s.raiseRecoverable e n).fatalCause = s.fatalCause := rfl
@[simp] theorem raiseRecoverable_a (s : State) (e : RspCode) (n : BitVec 12) : (s.raiseRecoverable e n).a = s.a := rfl
@[simp] theorem raiseRecoverable_b (s : State) (e : RspCode) (n : BitVec 12) : (s.raiseRecoverable e n).b = s.b := rfl
@[simp] theorem raiseRecoverable_c (s : State) (e : RspCode) (n : BitVec 12) : (s.raiseRecoverable e n).c = s.c := rfl
@[simp] theorem raiseRecoverable_d (s : State) (e : RspCode) (n : BitVec 12) : (s.raiseRecoverable e n).d = s.d := rfl
@[simp] theorem raiseRecoverable_l0 (s : State) (e : RspCode) (n : BitVec 12) : (s.raiseRecoverable e n).l0 = s.l0 := rfl
@[simp] theorem raiseRecoverable_l1 (s : State) (e : RspCode) (n : BitVec 12) : (s.raiseRecoverable e n).l1 = s.l1 := rfl
@[simp] theorem raiseRecoverable_r0 (s : State) (e : RspCode) (n : BitVec 12) : (s.raiseRecoverable e n).r0 = s.r0 := rfl
@[simp] theorem raiseRecoverable_r1 (s : State) (e : RspCode) (n : BitVec 12) : (s.raiseRecoverable e n).r1 = s.r1 := rfl
@[simp] theorem raiseRecoverable_rk (s : State) (e : RspCode) (n : BitVec 12) : (s.raiseRecoverable e n).rk = s.rk := rfl
@[simp] theorem raiseRecoverable_params (s : State) (e : RspCode) (n : BitVec 12) : (s.raiseRecoverable e n).params = s.params := rfl
@[simp] theorem raiseRecoverable_rst (s : State) (e : RspCode) (n : BitVec 12) : (s.raiseRecoverable e n).rst = s.rst := rfl
@[simp] theorem raiseRecoverable_cmdValid (s : State) (e : RspCode) (n : BitVec 12) : (s.raiseRecoverable e n).cmdValid = s.cmdValid := rfl
@[simp] theorem raiseRecoverable_cmd (s : State) (e : RspCode) (n : BitVec 12) : (s.raiseRecoverable e n).cmd = s.cmd := rfl
@[simp] theorem raiseRecoverable_din (s : State) (e : RspCode) (n : BitVec 12) : (s.raiseRecoverable e n).din = s.din := rfl
@[simp] theorem raiseRecoverable_pending (s : State) (e : RspCode) (n : BitVec 12) : (s.raiseRecoverable e n).pending = s.pending := rfl
@[simp] theorem raiseRecoverable_rsp (s : State) (e : RspCode) (n : BitVec 12) : (s.raiseRecoverable e n).rsp = some ⟨e, n, 0⟩ := rfl
@[simp] theorem raiseRecoverable_responses (s : State) (e : RspCode) (n : BitVec 12) : (s.raiseRecoverable e n).responses = s.responses ++ [⟨e, n, 0⟩] := rfl
@[simp] theorem raiseRecoverable_resets (s : State) (e : RspCode) (n : BitVec 12) : (s.raiseRecoverable e n).resets = s.resets := rfl

@[simp] theorem illegalCommand_fsm (s : State) : (s.illegalCommand).fsm = .fatal := rfl
@[simp] theorem illegalCommand_rnd (s : State) : (s.illegalCommand).rnd = s.rnd := rfl
@[simp] theorem illegalCommand_dir (s : State) : (s.illegalCommand).dir = s.dir := rfl
@[simp] theorem illegalCommand_keyValid (s : State) : (s.illegalCommand).keyValid = s.keyValid := rfl
@[simp] theorem illegalCommand_fatalCause (s : State) : (s.illegalCommand).fatalCause = RspCode.fatalIllegalCmd.bits := rfl
@[simp] theorem illegalCommand_a (s : State) : (s.illegalCommand).a = s.a := rfl
@[simp] theorem illegalCommand_b (s : State) : (s.illegalCommand).b = s.b := rfl
@[simp] theorem illegalCommand_c (s : State) : (s.illegalCommand).c = s.c := rfl
@[simp] theorem illegalCommand_d (s : State) : (s.illegalCommand).d = s.d := rfl
@[simp] theorem illegalCommand_l0 (s : State) : (s.illegalCommand).l0 = s.l0 := rfl
@[simp] theorem illegalCommand_l1 (s : State) : (s.illegalCommand).l1 = s.l1 := rfl
@[simp] theorem illegalCommand_r0 (s : State) : (s.illegalCommand).r0 = s.r0 := rfl
@[simp] theorem illegalCommand_r1 (s : State) : (s.illegalCommand).r1 = s.r1 := rfl
@[simp] theorem illegalCommand_rk (s : State) : (s.illegalCommand).rk = s.rk := rfl
@[simp] theorem illegalCommand_params (s : State) : (s.illegalCommand).params = s.params := rfl
@[simp] theorem illegalCommand_rst (s : State) : (s.illegalCommand).rst = s.rst := rfl
@[simp] theorem illegalCommand_cmdValid (s : State) : (s.illegalCommand).cmdValid = s.cmdValid := rfl
@[simp] theorem illegalCommand_cmd (s : State) : (s.illegalCommand).cmd = s.cmd := rfl
@[simp] theorem illegalCommand_din (s : State) : (s.illegalCommand).din = s.din := rfl
@[simp] theorem illegalCommand_pending (s : State) : (s.illegalCommand).pending = s.pending := rfl
@[simp] theorem illegalCommand_rsp (s : State) : (s.illegalCommand).rsp = some ⟨.fatalIllegalCmd, 0, 0⟩ := rfl
@[simp] theorem illegalCommand_responses (s : State) : (s.illegalCommand).responses = s.responses ++ [⟨.fatalIllegalCmd, 0, 0⟩] := rfl
@[simp] theorem illegalCommand_resets (s : State) : (s.illegalCommand).resets = s.resets := rfl

/-! Reset (rules R22, R130). -/

@[simp] theorem resetEvent_fsm (s : State) : (s.resetEvent).fsm = .idle := rfl
@[simp] theorem resetEvent_rnd (s : State) : (s.resetEvent).rnd = 0 := rfl
@[simp] theorem resetEvent_dir (s : State) : (s.resetEvent).dir = .encrypt := rfl
@[simp] theorem resetEvent_keyValid (s : State) : (s.resetEvent).keyValid = false := rfl
@[simp] theorem resetEvent_fatalCause (s : State) : (s.resetEvent).fatalCause = 0 := rfl
@[simp] theorem resetEvent_a (s : State) : (s.resetEvent).a = 0 := rfl
@[simp] theorem resetEvent_b (s : State) : (s.resetEvent).b = 0 := rfl
@[simp] theorem resetEvent_c (s : State) : (s.resetEvent).c = 0 := rfl
@[simp] theorem resetEvent_d (s : State) : (s.resetEvent).d = 0 := rfl
@[simp] theorem resetEvent_l0 (s : State) : (s.resetEvent).l0 = 0 := rfl
@[simp] theorem resetEvent_l1 (s : State) : (s.resetEvent).l1 = 0 := rfl
@[simp] theorem resetEvent_r0 (s : State) : (s.resetEvent).r0 = 0 := rfl
@[simp] theorem resetEvent_r1 (s : State) : (s.resetEvent).r1 = 0 := rfl
@[simp] theorem resetEvent_rk (s : State) : (s.resetEvent).rk = Config.rkAfterReset s.resets := rfl
@[simp] theorem resetEvent_params (s : State) : (s.resetEvent).params = s.params := rfl
@[simp] theorem resetEvent_rst (s : State) : (s.resetEvent).rst = s.rst := rfl
@[simp] theorem resetEvent_cmdValid (s : State) : (s.resetEvent).cmdValid = s.cmdValid := rfl
@[simp] theorem resetEvent_cmd (s : State) : (s.resetEvent).cmd = s.cmd := rfl
@[simp] theorem resetEvent_din (s : State) : (s.resetEvent).din = s.din := rfl
@[simp] theorem resetEvent_pending (s : State) : (s.resetEvent).pending = s.pending := rfl
@[simp] theorem resetEvent_rsp (s : State) : (s.resetEvent).rsp = none := rfl
@[simp] theorem resetEvent_responses (s : State) : (s.resetEvent).responses = [] := rfl
@[simp] theorem resetEvent_resets (s : State) : (s.resetEvent).resets = s.resets + 1 := rfl

/-! The working registers. -/

@[simp] theorem setKeyRegs_fsm (s : State) (k : KeyRegs) : (s.setKeyRegs k).fsm = s.fsm := rfl
@[simp] theorem setKeyRegs_rnd (s : State) (k : KeyRegs) : (s.setKeyRegs k).rnd = s.rnd := rfl
@[simp] theorem setKeyRegs_dir (s : State) (k : KeyRegs) : (s.setKeyRegs k).dir = s.dir := rfl
@[simp] theorem setKeyRegs_keyValid (s : State) (k : KeyRegs) : (s.setKeyRegs k).keyValid = s.keyValid := rfl
@[simp] theorem setKeyRegs_fatalCause (s : State) (k : KeyRegs) : (s.setKeyRegs k).fatalCause = s.fatalCause := rfl
@[simp] theorem setKeyRegs_a (s : State) (k : KeyRegs) : (s.setKeyRegs k).a = k.a := rfl
@[simp] theorem setKeyRegs_b (s : State) (k : KeyRegs) : (s.setKeyRegs k).b = k.b := rfl
@[simp] theorem setKeyRegs_c (s : State) (k : KeyRegs) : (s.setKeyRegs k).c = k.c := rfl
@[simp] theorem setKeyRegs_d (s : State) (k : KeyRegs) : (s.setKeyRegs k).d = k.d := rfl
@[simp] theorem setKeyRegs_l0 (s : State) (k : KeyRegs) : (s.setKeyRegs k).l0 = s.l0 := rfl
@[simp] theorem setKeyRegs_l1 (s : State) (k : KeyRegs) : (s.setKeyRegs k).l1 = s.l1 := rfl
@[simp] theorem setKeyRegs_r0 (s : State) (k : KeyRegs) : (s.setKeyRegs k).r0 = s.r0 := rfl
@[simp] theorem setKeyRegs_r1 (s : State) (k : KeyRegs) : (s.setKeyRegs k).r1 = s.r1 := rfl
@[simp] theorem setKeyRegs_rk (s : State) (k : KeyRegs) : (s.setKeyRegs k).rk = s.rk := rfl
@[simp] theorem setKeyRegs_params (s : State) (k : KeyRegs) : (s.setKeyRegs k).params = s.params := rfl
@[simp] theorem setKeyRegs_rst (s : State) (k : KeyRegs) : (s.setKeyRegs k).rst = s.rst := rfl
@[simp] theorem setKeyRegs_cmdValid (s : State) (k : KeyRegs) : (s.setKeyRegs k).cmdValid = s.cmdValid := rfl
@[simp] theorem setKeyRegs_cmd (s : State) (k : KeyRegs) : (s.setKeyRegs k).cmd = s.cmd := rfl
@[simp] theorem setKeyRegs_din (s : State) (k : KeyRegs) : (s.setKeyRegs k).din = s.din := rfl
@[simp] theorem setKeyRegs_pending (s : State) (k : KeyRegs) : (s.setKeyRegs k).pending = s.pending := rfl
@[simp] theorem setKeyRegs_rsp (s : State) (k : KeyRegs) : (s.setKeyRegs k).rsp = s.rsp := rfl
@[simp] theorem setKeyRegs_responses (s : State) (k : KeyRegs) : (s.setKeyRegs k).responses = s.responses := rfl
@[simp] theorem setKeyRegs_resets (s : State) (k : KeyRegs) : (s.setKeyRegs k).resets = s.resets := rfl

@[simp] theorem setKeyRegs_keyRegs (s : State) (k : KeyRegs) : (s.setKeyRegs k).keyRegs = k := rfl

@[simp] theorem setHalves_fsm (s : State) (h : Halves) : (s.setHalves h).fsm = s.fsm := rfl
@[simp] theorem setHalves_rnd (s : State) (h : Halves) : (s.setHalves h).rnd = s.rnd := rfl
@[simp] theorem setHalves_dir (s : State) (h : Halves) : (s.setHalves h).dir = s.dir := rfl
@[simp] theorem setHalves_keyValid (s : State) (h : Halves) : (s.setHalves h).keyValid = s.keyValid := rfl
@[simp] theorem setHalves_fatalCause (s : State) (h : Halves) : (s.setHalves h).fatalCause = s.fatalCause := rfl
@[simp] theorem setHalves_a (s : State) (h : Halves) : (s.setHalves h).a = s.a := rfl
@[simp] theorem setHalves_b (s : State) (h : Halves) : (s.setHalves h).b = s.b := rfl
@[simp] theorem setHalves_c (s : State) (h : Halves) : (s.setHalves h).c = s.c := rfl
@[simp] theorem setHalves_d (s : State) (h : Halves) : (s.setHalves h).d = s.d := rfl
@[simp] theorem setHalves_l0 (s : State) (h : Halves) : (s.setHalves h).l0 = h.l0 := rfl
@[simp] theorem setHalves_l1 (s : State) (h : Halves) : (s.setHalves h).l1 = h.l1 := rfl
@[simp] theorem setHalves_r0 (s : State) (h : Halves) : (s.setHalves h).r0 = h.r0 := rfl
@[simp] theorem setHalves_r1 (s : State) (h : Halves) : (s.setHalves h).r1 = h.r1 := rfl
@[simp] theorem setHalves_rk (s : State) (h : Halves) : (s.setHalves h).rk = s.rk := rfl
@[simp] theorem setHalves_params (s : State) (h : Halves) : (s.setHalves h).params = s.params := rfl
@[simp] theorem setHalves_rst (s : State) (h : Halves) : (s.setHalves h).rst = s.rst := rfl
@[simp] theorem setHalves_cmdValid (s : State) (h : Halves) : (s.setHalves h).cmdValid = s.cmdValid := rfl
@[simp] theorem setHalves_cmd (s : State) (h : Halves) : (s.setHalves h).cmd = s.cmd := rfl
@[simp] theorem setHalves_din (s : State) (h : Halves) : (s.setHalves h).din = s.din := rfl
@[simp] theorem setHalves_pending (s : State) (h : Halves) : (s.setHalves h).pending = s.pending := rfl
@[simp] theorem setHalves_rsp (s : State) (h : Halves) : (s.setHalves h).rsp = s.rsp := rfl
@[simp] theorem setHalves_responses (s : State) (h : Halves) : (s.setHalves h).responses = s.responses := rfl
@[simp] theorem setHalves_resets (s : State) (h : Halves) : (s.setHalves h).resets = s.resets := rfl

@[simp] theorem setHalves_halves (s : State) (h : Halves) : (s.setHalves h).halves = h := rfl

@[simp] theorem startSchedule_fsm (s : State) : (s.startSchedule).fsm = .ks := rfl
@[simp] theorem startSchedule_rnd (s : State) : (s.startSchedule).rnd = 0 := rfl
@[simp] theorem startSchedule_dir (s : State) : (s.startSchedule).dir = s.dir := rfl
@[simp] theorem startSchedule_keyValid (s : State) : (s.startSchedule).keyValid = false := rfl
@[simp] theorem startSchedule_fatalCause (s : State) : (s.startSchedule).fatalCause = s.fatalCause := rfl
@[simp] theorem startSchedule_a (s : State) : (s.startSchedule).a = busWord0 s.din := rfl
@[simp] theorem startSchedule_b (s : State) : (s.startSchedule).b = busWord1 s.din := rfl
@[simp] theorem startSchedule_c (s : State) : (s.startSchedule).c = busWord2 s.din := rfl
@[simp] theorem startSchedule_d (s : State) : (s.startSchedule).d = busWord3 s.din := rfl
@[simp] theorem startSchedule_l0 (s : State) : (s.startSchedule).l0 = s.l0 := rfl
@[simp] theorem startSchedule_l1 (s : State) : (s.startSchedule).l1 = s.l1 := rfl
@[simp] theorem startSchedule_r0 (s : State) : (s.startSchedule).r0 = s.r0 := rfl
@[simp] theorem startSchedule_r1 (s : State) : (s.startSchedule).r1 = s.r1 := rfl
@[simp] theorem startSchedule_rk (s : State) : (s.startSchedule).rk = s.rk := rfl
@[simp] theorem startSchedule_params (s : State) : (s.startSchedule).params = s.params := rfl
@[simp] theorem startSchedule_rst (s : State) : (s.startSchedule).rst = s.rst := rfl
@[simp] theorem startSchedule_cmdValid (s : State) : (s.startSchedule).cmdValid = s.cmdValid := rfl
@[simp] theorem startSchedule_cmd (s : State) : (s.startSchedule).cmd = s.cmd := rfl
@[simp] theorem startSchedule_din (s : State) : (s.startSchedule).din = s.din := rfl
@[simp] theorem startSchedule_pending (s : State) : (s.startSchedule).pending = s.pending := rfl
@[simp] theorem startSchedule_rsp (s : State) : (s.startSchedule).rsp = none := rfl
@[simp] theorem startSchedule_responses (s : State) : (s.startSchedule).responses = s.responses := rfl
@[simp] theorem startSchedule_resets (s : State) : (s.startSchedule).resets = s.resets := rfl

@[simp] theorem startTransform_fsm (s : State) (r : Dir) : (s.startTransform r).fsm = .cr := rfl
@[simp] theorem startTransform_rnd (s : State) (r : Dir) : (s.startTransform r).rnd = 0 := rfl
@[simp] theorem startTransform_dir (s : State) (r : Dir) : (s.startTransform r).dir = r := rfl
@[simp] theorem startTransform_keyValid (s : State) (r : Dir) : (s.startTransform r).keyValid = s.keyValid := rfl
@[simp] theorem startTransform_fatalCause (s : State) (r : Dir) : (s.startTransform r).fatalCause = s.fatalCause := rfl
@[simp] theorem startTransform_a (s : State) (r : Dir) : (s.startTransform r).a = s.a := rfl
@[simp] theorem startTransform_b (s : State) (r : Dir) : (s.startTransform r).b = s.b := rfl
@[simp] theorem startTransform_c (s : State) (r : Dir) : (s.startTransform r).c = s.c := rfl
@[simp] theorem startTransform_d (s : State) (r : Dir) : (s.startTransform r).d = s.d := rfl
@[simp] theorem startTransform_l0 (s : State) (r : Dir) : (s.startTransform r).l0 = busWord0 s.din := rfl
@[simp] theorem startTransform_l1 (s : State) (r : Dir) : (s.startTransform r).l1 = busWord1 s.din := rfl
@[simp] theorem startTransform_r0 (s : State) (r : Dir) : (s.startTransform r).r0 = busWord2 s.din := rfl
@[simp] theorem startTransform_r1 (s : State) (r : Dir) : (s.startTransform r).r1 = busWord3 s.din := rfl
@[simp] theorem startTransform_rk (s : State) (r : Dir) : (s.startTransform r).rk = s.rk := rfl
@[simp] theorem startTransform_params (s : State) (r : Dir) : (s.startTransform r).params = s.params := rfl
@[simp] theorem startTransform_rst (s : State) (r : Dir) : (s.startTransform r).rst = s.rst := rfl
@[simp] theorem startTransform_cmdValid (s : State) (r : Dir) : (s.startTransform r).cmdValid = s.cmdValid := rfl
@[simp] theorem startTransform_cmd (s : State) (r : Dir) : (s.startTransform r).cmd = s.cmd := rfl
@[simp] theorem startTransform_din (s : State) (r : Dir) : (s.startTransform r).din = s.din := rfl
@[simp] theorem startTransform_pending (s : State) (r : Dir) : (s.startTransform r).pending = s.pending := rfl
@[simp] theorem startTransform_rsp (s : State) (r : Dir) : (s.startTransform r).rsp = none := rfl
@[simp] theorem startTransform_responses (s : State) (r : Dir) : (s.startTransform r).responses = s.responses := rfl
@[simp] theorem startTransform_resets (s : State) (r : Dir) : (s.startTransform r).resets = s.resets := rfl

@[simp] theorem writeRoundKeys_fsm (s : State) : (s.writeRoundKeys).fsm = s.fsm := rfl
@[simp] theorem writeRoundKeys_rnd (s : State) : (s.writeRoundKeys).rnd = s.rnd := rfl
@[simp] theorem writeRoundKeys_dir (s : State) : (s.writeRoundKeys).dir = s.dir := rfl
@[simp] theorem writeRoundKeys_keyValid (s : State) : (s.writeRoundKeys).keyValid = s.keyValid := rfl
@[simp] theorem writeRoundKeys_fatalCause (s : State) : (s.writeRoundKeys).fatalCause = s.fatalCause := rfl
@[simp] theorem writeRoundKeys_a (s : State) : (s.writeRoundKeys).a = s.a := rfl
@[simp] theorem writeRoundKeys_b (s : State) : (s.writeRoundKeys).b = s.b := rfl
@[simp] theorem writeRoundKeys_c (s : State) : (s.writeRoundKeys).c = s.c := rfl
@[simp] theorem writeRoundKeys_d (s : State) : (s.writeRoundKeys).d = s.d := rfl
@[simp] theorem writeRoundKeys_l0 (s : State) : (s.writeRoundKeys).l0 = s.l0 := rfl
@[simp] theorem writeRoundKeys_l1 (s : State) : (s.writeRoundKeys).l1 = s.l1 := rfl
@[simp] theorem writeRoundKeys_r0 (s : State) : (s.writeRoundKeys).r0 = s.r0 := rfl
@[simp] theorem writeRoundKeys_r1 (s : State) : (s.writeRoundKeys).r1 = s.r1 := rfl
@[simp] theorem writeRoundKeys_params (s : State) : (s.writeRoundKeys).params = s.params := rfl
@[simp] theorem writeRoundKeys_rst (s : State) : (s.writeRoundKeys).rst = s.rst := rfl
@[simp] theorem writeRoundKeys_cmdValid (s : State) : (s.writeRoundKeys).cmdValid = s.cmdValid := rfl
@[simp] theorem writeRoundKeys_cmd (s : State) : (s.writeRoundKeys).cmd = s.cmd := rfl
@[simp] theorem writeRoundKeys_din (s : State) : (s.writeRoundKeys).din = s.din := rfl
@[simp] theorem writeRoundKeys_pending (s : State) : (s.writeRoundKeys).pending = s.pending := rfl
@[simp] theorem writeRoundKeys_rsp (s : State) : (s.writeRoundKeys).rsp = s.rsp := rfl
@[simp] theorem writeRoundKeys_responses (s : State) : (s.writeRoundKeys).responses = s.responses := rfl
@[simp] theorem writeRoundKeys_resets (s : State) : (s.writeRoundKeys).resets = s.resets := rfl

/-! The ports. -/

@[simp] theorem present_fsm (s : State) (p : Command) : (s.present p).fsm = s.fsm := rfl
@[simp] theorem present_rnd (s : State) (p : Command) : (s.present p).rnd = s.rnd := rfl
@[simp] theorem present_dir (s : State) (p : Command) : (s.present p).dir = s.dir := rfl
@[simp] theorem present_keyValid (s : State) (p : Command) : (s.present p).keyValid = s.keyValid := rfl
@[simp] theorem present_fatalCause (s : State) (p : Command) : (s.present p).fatalCause = s.fatalCause := rfl
@[simp] theorem present_a (s : State) (p : Command) : (s.present p).a = s.a := rfl
@[simp] theorem present_b (s : State) (p : Command) : (s.present p).b = s.b := rfl
@[simp] theorem present_c (s : State) (p : Command) : (s.present p).c = s.c := rfl
@[simp] theorem present_d (s : State) (p : Command) : (s.present p).d = s.d := rfl
@[simp] theorem present_l0 (s : State) (p : Command) : (s.present p).l0 = s.l0 := rfl
@[simp] theorem present_l1 (s : State) (p : Command) : (s.present p).l1 = s.l1 := rfl
@[simp] theorem present_r0 (s : State) (p : Command) : (s.present p).r0 = s.r0 := rfl
@[simp] theorem present_r1 (s : State) (p : Command) : (s.present p).r1 = s.r1 := rfl
@[simp] theorem present_rk (s : State) (p : Command) : (s.present p).rk = s.rk := rfl
@[simp] theorem present_params (s : State) (p : Command) : (s.present p).params = s.params := rfl
@[simp] theorem present_rst (s : State) (p : Command) : (s.present p).rst = s.rst := rfl
@[simp] theorem present_cmdValid (s : State) (p : Command) : (s.present p).cmdValid = true := rfl
@[simp] theorem present_cmd (s : State) (p : Command) : (s.present p).cmd = p.word := rfl
@[simp] theorem present_din (s : State) (p : Command) : (s.present p).din = p.din := rfl
@[simp] theorem present_pending (s : State) (p : Command) : (s.present p).pending = s.pending := rfl
@[simp] theorem present_rsp (s : State) (p : Command) : (s.present p).rsp = s.rsp := rfl
@[simp] theorem present_responses (s : State) (p : Command) : (s.present p).responses = s.responses := rfl
@[simp] theorem present_resets (s : State) (p : Command) : (s.present p).resets = s.resets := rfl

@[simp] theorem presentNothing_fsm (s : State) : (s.presentNothing).fsm = s.fsm := rfl
@[simp] theorem presentNothing_rnd (s : State) : (s.presentNothing).rnd = s.rnd := rfl
@[simp] theorem presentNothing_dir (s : State) : (s.presentNothing).dir = s.dir := rfl
@[simp] theorem presentNothing_keyValid (s : State) : (s.presentNothing).keyValid = s.keyValid := rfl
@[simp] theorem presentNothing_fatalCause (s : State) : (s.presentNothing).fatalCause = s.fatalCause := rfl
@[simp] theorem presentNothing_a (s : State) : (s.presentNothing).a = s.a := rfl
@[simp] theorem presentNothing_b (s : State) : (s.presentNothing).b = s.b := rfl
@[simp] theorem presentNothing_c (s : State) : (s.presentNothing).c = s.c := rfl
@[simp] theorem presentNothing_d (s : State) : (s.presentNothing).d = s.d := rfl
@[simp] theorem presentNothing_l0 (s : State) : (s.presentNothing).l0 = s.l0 := rfl
@[simp] theorem presentNothing_l1 (s : State) : (s.presentNothing).l1 = s.l1 := rfl
@[simp] theorem presentNothing_r0 (s : State) : (s.presentNothing).r0 = s.r0 := rfl
@[simp] theorem presentNothing_r1 (s : State) : (s.presentNothing).r1 = s.r1 := rfl
@[simp] theorem presentNothing_rk (s : State) : (s.presentNothing).rk = s.rk := rfl
@[simp] theorem presentNothing_params (s : State) : (s.presentNothing).params = s.params := rfl
@[simp] theorem presentNothing_rst (s : State) : (s.presentNothing).rst = s.rst := rfl
@[simp] theorem presentNothing_cmdValid (s : State) : (s.presentNothing).cmdValid = false := rfl
@[simp] theorem presentNothing_cmd (s : State) : (s.presentNothing).cmd = 0 := rfl
@[simp] theorem presentNothing_din (s : State) : (s.presentNothing).din = 0 := rfl
@[simp] theorem presentNothing_pending (s : State) : (s.presentNothing).pending = s.pending := rfl
@[simp] theorem presentNothing_rsp (s : State) : (s.presentNothing).rsp = s.rsp := rfl
@[simp] theorem presentNothing_responses (s : State) : (s.presentNothing).responses = s.responses := rfl
@[simp] theorem presentNothing_resets (s : State) : (s.presentNothing).resets = s.resets := rfl

@[simp] theorem refillPort_fsm (s : State) : s.refillPort.fsm = s.fsm := by
  unfold State.refillPort; split <;> rfl
@[simp] theorem refillPort_rnd (s : State) : s.refillPort.rnd = s.rnd := by
  unfold State.refillPort; split <;> rfl
@[simp] theorem refillPort_dir (s : State) : s.refillPort.dir = s.dir := by
  unfold State.refillPort; split <;> rfl
@[simp] theorem refillPort_keyValid (s : State) : s.refillPort.keyValid = s.keyValid := by
  unfold State.refillPort; split <;> rfl
@[simp] theorem refillPort_fatalCause (s : State) : s.refillPort.fatalCause = s.fatalCause := by
  unfold State.refillPort; split <;> rfl
@[simp] theorem refillPort_a (s : State) : s.refillPort.a = s.a := by
  unfold State.refillPort; split <;> rfl
@[simp] theorem refillPort_b (s : State) : s.refillPort.b = s.b := by
  unfold State.refillPort; split <;> rfl
@[simp] theorem refillPort_c (s : State) : s.refillPort.c = s.c := by
  unfold State.refillPort; split <;> rfl
@[simp] theorem refillPort_d (s : State) : s.refillPort.d = s.d := by
  unfold State.refillPort; split <;> rfl
@[simp] theorem refillPort_l0 (s : State) : s.refillPort.l0 = s.l0 := by
  unfold State.refillPort; split <;> rfl
@[simp] theorem refillPort_l1 (s : State) : s.refillPort.l1 = s.l1 := by
  unfold State.refillPort; split <;> rfl
@[simp] theorem refillPort_r0 (s : State) : s.refillPort.r0 = s.r0 := by
  unfold State.refillPort; split <;> rfl
@[simp] theorem refillPort_r1 (s : State) : s.refillPort.r1 = s.r1 := by
  unfold State.refillPort; split <;> rfl
@[simp] theorem refillPort_rk (s : State) : s.refillPort.rk = s.rk := by
  unfold State.refillPort; split <;> rfl
@[simp] theorem refillPort_params (s : State) : s.refillPort.params = s.params := by
  unfold State.refillPort; split <;> rfl
@[simp] theorem refillPort_rsp (s : State) : s.refillPort.rsp = s.rsp := by
  unfold State.refillPort; split <;> rfl
@[simp] theorem refillPort_responses (s : State) : s.refillPort.responses = s.responses := by
  unfold State.refillPort; split <;> rfl
@[simp] theorem refillPort_resets (s : State) : s.refillPort.resets = s.resets := by
  unfold State.refillPort; split <;> rfl
@[simp] theorem refillPort_rst (s : State) : s.refillPort.rst = s.rst := by
  unfold State.refillPort; split <;> rfl

@[simp] theorem hostMoves_fsm (s : State) (p : Bool) : (s.hostMoves p).fsm = s.fsm := by
  unfold State.hostMoves; dsimp only; split <;> simp
@[simp] theorem hostMoves_rnd (s : State) (p : Bool) : (s.hostMoves p).rnd = s.rnd := by
  unfold State.hostMoves; dsimp only; split <;> simp
@[simp] theorem hostMoves_dir (s : State) (p : Bool) : (s.hostMoves p).dir = s.dir := by
  unfold State.hostMoves; dsimp only; split <;> simp
@[simp] theorem hostMoves_keyValid (s : State) (p : Bool) : (s.hostMoves p).keyValid = s.keyValid := by
  unfold State.hostMoves; dsimp only; split <;> simp
@[simp] theorem hostMoves_fatalCause (s : State) (p : Bool) : (s.hostMoves p).fatalCause = s.fatalCause := by
  unfold State.hostMoves; dsimp only; split <;> simp
@[simp] theorem hostMoves_a (s : State) (p : Bool) : (s.hostMoves p).a = s.a := by
  unfold State.hostMoves; dsimp only; split <;> simp
@[simp] theorem hostMoves_b (s : State) (p : Bool) : (s.hostMoves p).b = s.b := by
  unfold State.hostMoves; dsimp only; split <;> simp
@[simp] theorem hostMoves_c (s : State) (p : Bool) : (s.hostMoves p).c = s.c := by
  unfold State.hostMoves; dsimp only; split <;> simp
@[simp] theorem hostMoves_d (s : State) (p : Bool) : (s.hostMoves p).d = s.d := by
  unfold State.hostMoves; dsimp only; split <;> simp
@[simp] theorem hostMoves_l0 (s : State) (p : Bool) : (s.hostMoves p).l0 = s.l0 := by
  unfold State.hostMoves; dsimp only; split <;> simp
@[simp] theorem hostMoves_l1 (s : State) (p : Bool) : (s.hostMoves p).l1 = s.l1 := by
  unfold State.hostMoves; dsimp only; split <;> simp
@[simp] theorem hostMoves_r0 (s : State) (p : Bool) : (s.hostMoves p).r0 = s.r0 := by
  unfold State.hostMoves; dsimp only; split <;> simp
@[simp] theorem hostMoves_r1 (s : State) (p : Bool) : (s.hostMoves p).r1 = s.r1 := by
  unfold State.hostMoves; dsimp only; split <;> simp
@[simp] theorem hostMoves_rk (s : State) (p : Bool) : (s.hostMoves p).rk = s.rk := by
  unfold State.hostMoves; dsimp only; split <;> simp
@[simp] theorem hostMoves_params (s : State) (p : Bool) : (s.hostMoves p).params = s.params := by
  unfold State.hostMoves; dsimp only; split <;> simp
@[simp] theorem hostMoves_rsp (s : State) (p : Bool) : (s.hostMoves p).rsp = s.rsp := by
  unfold State.hostMoves; dsimp only; split <;> simp
@[simp] theorem hostMoves_responses (s : State) (p : Bool) : (s.hostMoves p).responses = s.responses := by
  unfold State.hostMoves; dsimp only; split <;> simp
@[simp] theorem hostMoves_resets (s : State) (p : Bool) : (s.hostMoves p).resets = s.resets := by
  unfold State.hostMoves; dsimp only; split <;> simp
@[simp] theorem hostMoves_rst (s : State) (p : Bool) : (s.hostMoves p).rst = s.rst.tail := by
  unfold State.hostMoves; dsimp only; split <;> simp

/-! The views. -/

@[simp] theorem hostMoves_keyRegs (s : State) (p : Bool) : (s.hostMoves p).keyRegs = s.keyRegs := by
  simp [State.keyRegs]

@[simp] theorem hostMoves_halves (s : State) (p : Bool) : (s.hostMoves p).halves = s.halves := by
  simp [State.halves]

@[simp] theorem engine_hostMoves (s : State) (p : Bool) : engine (s.hostMoves p) = engine s := by
  simp [engine]

@[simp] theorem engine_fsm (s : State) : (engine s).fsm = s.fsm := rfl
@[simp] theorem engine_rnd (s : State) : (engine s).rnd = s.rnd := rfl
@[simp] theorem engine_dir (s : State) : (engine s).dir = s.dir := rfl
@[simp] theorem engine_keyValid (s : State) : (engine s).keyValid = s.keyValid := rfl
@[simp] theorem engine_fatalCause (s : State) : (engine s).fatalCause = s.fatalCause := rfl
@[simp] theorem engine_a (s : State) : (engine s).a = s.a := rfl
@[simp] theorem engine_b (s : State) : (engine s).b = s.b := rfl
@[simp] theorem engine_c (s : State) : (engine s).c = s.c := rfl
@[simp] theorem engine_d (s : State) : (engine s).d = s.d := rfl
@[simp] theorem engine_l0 (s : State) : (engine s).l0 = s.l0 := rfl
@[simp] theorem engine_l1 (s : State) : (engine s).l1 = s.l1 := rfl
@[simp] theorem engine_r0 (s : State) : (engine s).r0 = s.r0 := rfl
@[simp] theorem engine_r1 (s : State) : (engine s).r1 = s.r1 := rfl
@[simp] theorem engine_rk (s : State) : (engine s).rk = s.rk := rfl
@[simp] theorem engine_params (s : State) : (engine s).params = s.params := rfl
@[simp] theorem engine_rst (s : State) : (engine s).rst = [] := rfl
@[simp] theorem engine_cmdValid (s : State) : (engine s).cmdValid = false := rfl
@[simp] theorem engine_cmd (s : State) : (engine s).cmd = 0 := rfl
@[simp] theorem engine_din (s : State) : (engine s).din = 0 := rfl
@[simp] theorem engine_pending (s : State) : (engine s).pending = [] := rfl
@[simp] theorem engine_rsp (s : State) : (engine s).rsp = s.rsp := rfl
@[simp] theorem engine_responses (s : State) : (engine s).responses = s.responses := rfl
@[simp] theorem engine_resets (s : State) : (engine s).resets = s.resets := rfl

/-! The parameters no rule depends on (rule R3). -/

@[simp] theorem retune_fsm (n : Nat) (y : ResetStyle) (m : HostBusMap) (s : State) : (retune n y m s).fsm = s.fsm := rfl
@[simp] theorem retune_rnd (n : Nat) (y : ResetStyle) (m : HostBusMap) (s : State) : (retune n y m s).rnd = s.rnd := rfl
@[simp] theorem retune_dir (n : Nat) (y : ResetStyle) (m : HostBusMap) (s : State) : (retune n y m s).dir = s.dir := rfl
@[simp] theorem retune_keyValid (n : Nat) (y : ResetStyle) (m : HostBusMap) (s : State) : (retune n y m s).keyValid = s.keyValid := rfl
@[simp] theorem retune_fatalCause (n : Nat) (y : ResetStyle) (m : HostBusMap) (s : State) : (retune n y m s).fatalCause = s.fatalCause := rfl
@[simp] theorem retune_a (n : Nat) (y : ResetStyle) (m : HostBusMap) (s : State) : (retune n y m s).a = s.a := rfl
@[simp] theorem retune_b (n : Nat) (y : ResetStyle) (m : HostBusMap) (s : State) : (retune n y m s).b = s.b := rfl
@[simp] theorem retune_c (n : Nat) (y : ResetStyle) (m : HostBusMap) (s : State) : (retune n y m s).c = s.c := rfl
@[simp] theorem retune_d (n : Nat) (y : ResetStyle) (m : HostBusMap) (s : State) : (retune n y m s).d = s.d := rfl
@[simp] theorem retune_l0 (n : Nat) (y : ResetStyle) (m : HostBusMap) (s : State) : (retune n y m s).l0 = s.l0 := rfl
@[simp] theorem retune_l1 (n : Nat) (y : ResetStyle) (m : HostBusMap) (s : State) : (retune n y m s).l1 = s.l1 := rfl
@[simp] theorem retune_r0 (n : Nat) (y : ResetStyle) (m : HostBusMap) (s : State) : (retune n y m s).r0 = s.r0 := rfl
@[simp] theorem retune_r1 (n : Nat) (y : ResetStyle) (m : HostBusMap) (s : State) : (retune n y m s).r1 = s.r1 := rfl
@[simp] theorem retune_rk (n : Nat) (y : ResetStyle) (m : HostBusMap) (s : State) : (retune n y m s).rk = s.rk := rfl
@[simp] theorem retune_params (n : Nat) (y : ResetStyle) (m : HostBusMap) (s : State) : (retune n y m s).params = ⟨s.params.unsupportedKeyLens, n, y, m⟩ := rfl
@[simp] theorem retune_rst (n : Nat) (y : ResetStyle) (m : HostBusMap) (s : State) : (retune n y m s).rst = s.rst := rfl
@[simp] theorem retune_cmdValid (n : Nat) (y : ResetStyle) (m : HostBusMap) (s : State) : (retune n y m s).cmdValid = s.cmdValid := rfl
@[simp] theorem retune_cmd (n : Nat) (y : ResetStyle) (m : HostBusMap) (s : State) : (retune n y m s).cmd = s.cmd := rfl
@[simp] theorem retune_din (n : Nat) (y : ResetStyle) (m : HostBusMap) (s : State) : (retune n y m s).din = s.din := rfl
@[simp] theorem retune_pending (n : Nat) (y : ResetStyle) (m : HostBusMap) (s : State) : (retune n y m s).pending = s.pending := rfl
@[simp] theorem retune_rsp (n : Nat) (y : ResetStyle) (m : HostBusMap) (s : State) : (retune n y m s).rsp = s.rsp := rfl
@[simp] theorem retune_responses (n : Nat) (y : ResetStyle) (m : HostBusMap) (s : State) : (retune n y m s).responses = s.responses := rfl
@[simp] theorem retune_resets (n : Nat) (y : ResetStyle) (m : HostBusMap) (s : State) : (retune n y m s).resets = s.resets := rfl

end Sys2Proof.Machine
end

