-- ==== Sys2Proof/Laws/Ops.lean ====
section
/-! SUPPORT. For each shared operation, once, everything it can do: the round-key array, the accept steps, the rounds, the
host's moves, the step and the run. -/

namespace Sys2Proof.Machine

/-! The round-key array (rules R46, R106). -/

theorem rkRead_rkWrite_same (rk : RoundKeys) (j : BitVec 5) (v : Word) : rkRead (rkWrite rk j v) j = v := by
  simp [rkRead, rkWrite]

theorem rkRead_rkWrite_other (rk : RoundKeys) (j k : BitVec 5) (v : Word) (h : j ≠ k) :
    rkRead (rkWrite rk j v) k = rkRead rk k := by
  have : j.toNat ≠ k.toNat := fun e => h (BitVec.eq_of_toNat_eq e)
  simp [rkRead, rkWrite, this]

theorem roundKeys_ext (x y : RoundKeys) (h : ∀ j, rkRead x j = rkRead y j) : x = y := by
  refine Vector.ext fun j hj => ?_
  have := h (BitVec.ofNat 5 j)
  simpa [rkRead, Nat.mod_eq_of_lt hj] using this

theorem rkEven_toNat (i : BitVec 4) : (rkEven i).toNat = 2 * i.toNat := by
  revert i; decide

theorem rkOdd_toNat (i : BitVec 4) : (rkOdd i).toNat = 2 * i.toNat + 1 := by
  revert i; decide

theorem rkEven_ne_rkOdd (i j : BitVec 4) : rkEven i ≠ rkOdd j := by
  revert i j; decide

/-! The accept steps (rules R76, R86). -/

theorem execKeyld_cases (len : Len) (s : State) :
    (len ∈ s.params.unsupportedKeyLens ∧ exec (.keyld len) s = .next (s.raiseRecoverable .errKeySizeUnsupported len)) ∨
    (len ∉ s.params.unsupportedKeyLens ∧ len ≠ 16#12 ∧ exec (.keyld len) s = .next (s.raiseRecoverable .errKeySize len)) ∨
    (len ∉ s.params.unsupportedKeyLens ∧ len = 16#12 ∧ exec (.keyld len) s = .next s.startSchedule) := by
  by_cases h : len ∈ s.params.unsupportedKeyLens
  · exact .inl ⟨h, if_pos h⟩
  · by_cases h16 : len = 16#12
    · exact .inr (.inr ⟨h, h16, (if_neg h).trans (if_neg (not_not_intro h16))⟩)
    · exact .inr (.inl ⟨h, h16, (if_neg h).trans (if_pos h16)⟩)

theorem acceptTransform_cases (s : State) (dir : Dir) (slen dlen : Len) :
    (s.keyValid = false ∧ s.acceptTransform dir slen dlen = s.raiseFatal .fatalNoKey 0) ∨
    (s.keyValid = true ∧ slen < 16#12 ∧ s.acceptTransform dir slen dlen = s.raiseFatal .fatalShortInput slen) ∨
    (s.keyValid = true ∧ ¬ slen < 16#12 ∧ dlen < 16#12 ∧
      s.acceptTransform dir slen dlen = s.raiseFatal .fatalShortOutput dlen) ∨
    (s.keyValid = true ∧ ¬ slen < 16#12 ∧ ¬ dlen < 16#12 ∧ s.acceptTransform dir slen dlen = s.startTransform dir) := by
  unfold State.acceptTransform
  cases s.keyValid with
  | false => exact .inl ⟨rfl, if_pos rfl⟩
  | true =>
    rw [if_neg (by decide)]
    by_cases h : slen < 16#12
    · exact .inr (.inl ⟨rfl, h, if_pos h⟩)
    · rw [if_neg h]
      by_cases h' : dlen < 16#12
      · exact .inr (.inr (.inl ⟨rfl, h, h', if_pos h'⟩))
      · exact .inr (.inr (.inr ⟨rfl, h, h', if_neg h'⟩))

/-! The rounds (rules R78, R88). -/

theorem ksRound_of_lt (s : State) (h : s.rnd.toNat < 15) :
    s.ksRound =
      State.noResponse { s.writeRoundKeys.setKeyRegs (rotateWords s.keyRegs s.rnd) with rnd := s.rnd + 1 } := by
  simp [State.ksRound, h]

theorem ksRound_of_last (s : State) (h : ¬ s.rnd.toNat < 15) :
    s.ksRound = State.respondOk
      { s.writeRoundKeys.setKeyRegs ⟨0, 0, 0, 0⟩ with keyValid := true, rnd := 0, fsm := .idle } 0 0 := by
  simp [State.ksRound, h]

theorem crRound_of_lt (s : State) (h : s.rnd.toNat < 15) :
    s.crRound = State.noResponse
      { s.setHalves (mixLeft s.rk (roundIndex s.dir s.rnd) s.halves).swap with rnd := s.rnd + 1 } := by
  simp [State.crRound, h]

theorem crRound_of_last (s : State) (h : ¬ s.rnd.toNat < 15) :
    s.crRound = State.respondOk { s.setHalves ⟨0, 0, 0, 0⟩ with rnd := 0, fsm := .idle } 0
      (let x := mixLeft s.rk (roundIndex s.dir s.rnd) s.halves
       x.l0 ++ x.l1 ++ x.r0 ++ x.r1) := by
  simp [State.crRound, h]

/-! The host's moves (rules R52, R135). -/

theorem hostMoves_held (s : State) (h : s.cmdValid = true) :
    s.hostMoves false = { s with rst := s.rst.tail } := by
  simp [State.hostMoves, h]

theorem hostMoves_accepted (s : State) : s.hostMoves true = State.refillPort { s with rst := s.rst.tail } := by
  simp [State.hostMoves]

/-! Every accept step answers a next state, and so does every step but one. -/

theorem exec_answers_next (i : Instr) (s : State) : ∃ t, exec i s = .next t := by
  cases i with
  | keyld len =>
    obtain ⟨-, h⟩ | ⟨-, -, h⟩ | ⟨-, -, h⟩ := execKeyld_cases len s <;> exact ⟨_, h⟩
  | enc slen dlen => exact ⟨_, rfl⟩
  | dec slen dlen => exact ⟨_, rfl⟩
  | blksz => exact ⟨_, rfl⟩
  | clr => exact ⟨_, rfl⟩

/-- What a step that answers a next state has done: one of the six kinds of step. -/
theorem step_cases (s t : State) (h : step s = .next t) :
    (s.rstAsserted = true ∧ t = s.resetEvent.hostMoves false) ∨
    (s.rstAsserted = false ∧
      ((s.fsm = .fatal ∧ s.resetToCome = true ∧ t = s.noResponse.hostMoves false) ∨
       (s.fsm = .ks ∧ t = s.ksRound.hostMoves false) ∨
       (s.fsm = .cr ∧ t = s.crRound.hostMoves false) ∨
       (s.fsm = .idle ∧ s.cmdValid = false ∧ t = s.noResponse.hostMoves false) ∨
       (s.fsm = .idle ∧ s.cmdValid = true ∧
         ((∃ i u, decode s.cmd = .command i ∧ exec i s = .next u ∧ t = u.hostMoves true) ∨
          (∃ why, decode s.cmd = .reserved why ∧ t = s.illegalCommand.hostMoves true))))) := by
  unfold step at h
  cases hr : s.rstAsserted with
  | true => simp [hr] at h; exact .inl ⟨rfl, h.symm⟩
  | false =>
    refine .inr ⟨rfl, ?_⟩
    cases hf : s.fsm with
    | fatal =>
      cases hc : s.resetToCome <;> simp [hr, hf, hc] at h
      exact .inl ⟨rfl, rfl, h.symm⟩
    | ks => simp [hr, hf] at h; simp [h]
    | cr => simp [hr, hf] at h; simp [h]
    | idle =>
      cases hv : s.cmdValid with
      | false => simp [hr, hf, hv] at h; simp [h]
      | true =>
        cases hd : decode s.cmd with
        | command i =>
          obtain ⟨u, hu⟩ := exec_answers_next i s
          simp [hr, hf, hv, acceptStep, hd, hu, mapNext] at h
          simp [hu, h]
        | reserved why =>
          simp [hr, hf, hv, acceptStep, hd, mapNext] at h
          simp [h]

/-! Runs. -/

theorem run_succ (n : Nat) (s t : State) (h : step s = .next t) :
    Sys2Proof.core.run (n + 1) s = Sys2Proof.core.run n t := by
  have : Sys2Proof.core.step s = .next t := h
  simp [Host.Core.run, this]

/-- A run of `m + n` steps is a run of `m` and then a run of `n`. -/
theorem run_add (m n : Nat) (s t : State) (h : Sys2Proof.core.run m s = .next t) :
    Sys2Proof.core.run (m + n) s = Sys2Proof.core.run n t := by
  induction m generalizing s with
  | zero => cases h; rw [Nat.zero_add]
  | succ k ih =>
    rw [Nat.succ_add]
    simp only [Host.Core.run] at h ⊢
    cases hs : Sys2Proof.core.step s with
    | next u => rw [hs] at h; exact ih u h
    | fault r => rw [hs] at h; cases h
    | refused r => rw [hs] at h; cases h

end Sys2Proof.Machine
end

