-- ==== Sys2Proof/Laws/PerInstr.lean ====
section
/-! SUPPORT. One statement about every command as syntax: the row of the opcode map that selects its word is the row of its own
mnemonic (rule R56). -/

namespace Sys2Proof.Laws.OwnRow

/-- The word of the command is selected by the row of its mnemonic. -/
def Statement (i : Instr) : Prop :=
  ∃ r ∈ opcodeRows, r.mnemonic = i.mnemonic ∧ r.selects (encode i) = true

theorem keyld (len : Len) : Statement (.keyld len) :=
  ⟨⟨"KEYLD", 0x10000000#32, 0xFFFFF000#32⟩, by decide, rfl, by
    simp only [OpcodeRow.selects, encode, packWord_mask_lenB]; decide⟩

theorem enc (slen dlen : Len) : Statement (.enc slen dlen) :=
  ⟨⟨"ENC", 0x20000000#32, 0xFF000000#32⟩, by decide, rfl, by
    simp only [OpcodeRow.selects, encode, packWord_mask_head]; decide⟩

theorem dec (slen dlen : Len) : Statement (.dec slen dlen) :=
  ⟨⟨"DEC", 0x30000000#32, 0xFF000000#32⟩, by decide, rfl, by
    simp only [OpcodeRow.selects, encode, packWord_mask_head]; decide⟩

theorem blksz : Statement .blksz :=
  ⟨⟨"BLKSZ", 0x40000000#32, 0xFFFFFFFF#32⟩, by decide, rfl, by decide⟩

theorem clr : Statement .clr :=
  ⟨⟨"CLR", 0x50000000#32, 0xFFFFFFFF#32⟩, by decide, rfl, by decide⟩

end Sys2Proof.Laws.OwnRow
end

