-- ==== Sys2Proof/Tests/Slice0.lean ====
section
/-! SUPPORT. Tests. Every expected value is one that spec/95_test_vectors.md or the rule named beside it prints. Then, for every
statement with hypotheses, a witness that meets them together. -/

namespace Sys2Proof.Tests

open Machine

/-- The reset state with a command presented. -/
def presented (w : Word) (din : Bus) : State :=
  { State.reset with cmdValid := true, cmd := w, din := din }

/-- The same with a valid key: the all-zero array, marked valid. -/
def presentedKeyed (w : Word) (din : Bus) : State :=
  { presented w din with keyValid := true }

/-- A key-schedule round about to be taken. -/
def inSchedule (n : BitVec 4) (k : KeyRegs) : State :=
  State.setKeyRegs { State.reset with fsm := .ks, rnd := n } k

/-- A Feistel round about to be taken. -/
def inRounds (dir : Dir) (n : BitVec 4) (h : Halves) (rk : RoundKeys) : State :=
  State.setHalves { State.reset with fsm := .cr, rnd := n, dir := dir, keyValid := true, rk := rk } h

/-- The state in `FATAL`, with what the host will do to `rst`. -/
def inFatal (rst : List Bool) : State :=
  { State.reset with fsm := .fatal, fatalCause := 0xB, rst := rst }

/-- A view of the state one step gives. -/
def after {α : Type} (s : State) (view : State → α) : Option α :=
  match step s with
  | .next t => some (view t)
  | .fault _ => none
  | .refused _ => none

/-- The published round keys of the all-zero key (95, section 2.2). -/
def zeroKeyRoundKeys : RoundKeys :=
  #v[0x7C8F8C7E, 0xC737A22C, 0xFF276CDB, 0xA7CA684A, 0x2F9D01A1, 0x70049E41, 0xAE59B3C4, 0x4245E90C,
     0xA1D6400F, 0xDBC1394E, 0x85963508, 0x0C5F1FCB, 0xB684BDA7, 0x61A4AEAE, 0xD17E0741, 0xFEE90AA1,
     0x76CC05D5, 0xE97A7394, 0x50AC6F92, 0x1B2666E5, 0x65B7904A, 0x8EC3A7B3, 0x2F7E2E22, 0xA2B121B9,
     0x4D0BFDE4, 0x4E888D9B, 0x631C8DDC, 0x4378A6C4, 0x216AF65F, 0x7878C031, 0x71891150, 0x98B255B0]

/-! Well-formedness: an ill-formed term for each check. -/

theorem test_params_default_ok : Params.default.wellFormed = true := by decide

theorem test_params_sixteen_refused :
    Params.wellFormed { Params.default with unsupportedKeyLens := [32, 16] } = false := by decide

theorem test_params_saturated_refused :
    Params.wellFormed { Params.default with unsupportedKeyLens := [4095] } = false := by decide

theorem test_params_no_time_refused : Params.wellFormed { Params.default with cyclesPerStep := 0 } = false := by decide

theorem test_line_keyld_long_operand_refused : AsmLine.wellFormed (.keyld 15 (bytesOfBus 1)) = false := by decide

theorem test_line_enc_long_operand_refused : AsmLine.wellFormed (.enc 15 16 (bytesOfBus 1)) = false := by decide

theorem test_line_dec_long_operand_refused : AsmLine.wellFormed (.dec 0 16 (bytesOfBus (1 <<< 120))) = false := by decide

/-- P2's second line (95, section 8): the missing sixteenth byte is written as 0. -/
theorem test_line_keyld_short_ok :
    AsmLine.wellFormed (.keyld 15 (bytesOfBus 0x000102030405060708090A0B0C0D0E00)) = true := by decide

/-! The parameters (rules R32, R130). -/

theorem test_rst_active_low_pin :
    State.rstPin { State.reset with params := { Params.default with resetStyle := ⟨.activeLow, .asynchronous⟩ } } = true := by
  decide

theorem test_place_of_port : placeOf ⟨[(.cmd, 0), (.din, 4), (.status, 20)], 1, true⟩ .din = some 4 ∧
    placeOf ⟨[(.cmd, 0)], 1, true⟩ .dout = none := by decide

/-! Decoding: words written out bit by bit from the format of rule R54 and the opcode map of rule R56. -/

theorem test_decode_keyld : decode 0b0001_0000_000000000000_000000010000 = .command (.keyld 16) := by decide

theorem test_decode_enc : decode 0b0010_0000_111111111111_000000010100 = .command (.enc 20 4095) := by decide

theorem test_decode_dec : decode 0b0011_0000_000000001111_000000010000 = .command (.dec 16 15) := by decide

theorem test_decode_blksz : decode 0b0100_0000_000000000000_000000000000 = .command .blksz := by decide

theorem test_decode_clr : decode 0b0101_0000_000000000000_000000000000 = .command .clr := by decide

theorem test_decode_keyld_lenB : decode 0b0001_0000_100000000000_000000010000 = .reserved .keyldLenB := by decide

theorem test_decode_rsv : decode 0b0010_1000_000000010000_000000010000 = .reserved .rsvNotZero := by decide

theorem test_decode_op6 : decode 0b0110_0000_000000000000_000000000000 = .reserved .unknownOp := by decide

theorem test_decode_op0 : decode 0 = .reserved .unknownOp := by decide

theorem test_decodeTableWord : decodeTableWord 32 0x3000F010 = some (.dec 16 15) := by decide

/-- P2's fourth line (95, section 8). -/
theorem test_assemble_enc : (assemble (.enc 20 4095 (bytesOfBus 0))).word = 0x20FFF014 := by decide

/-- `KEYLD 5000` saturates (95, section 5). -/
theorem test_assemble_saturates : (assemble (.keyld 5000 (bytesOfBus 0))).word = 0x10000FFF := by decide

/-! Tables and functions (95, sections 3 and 4; rules R65, R66). -/

theorem test_sub_spot : [sub 0 0x10, sub 1 0x10, sub 2 0x10, sub 3 0x10] =
    [0x28082028, 0xC003C3C3, 0x20282808, 0xC3C3C003] := by decide

theorem test_mix_ones : [mix 0xFF 0, mix 0xFF 1, mix 0xFF 2, mix 0xFF 3] =
    [0x3FCFF3FC, 0xFC3FCFF3, 0xF3FC3FCF, 0xCFF3FC3F] := by decide

theorem test_kc_last : kc 15 = 0xBCDCCF1B := by decide

theorem test_g_lanes : [g 0x00000001, g 0x00000100, g 0x00010000, g 0x01000000] =
    [0x94259805, 0x683978F9, 0x98059425, 0x78F96839] := by decide

theorem test_gBytes : gBytes 0xDEADBEEF = 0xC407179A := by decide

theorem test_f_carry_dropped : f 0xFFFFFFFF 0xFFFFFFFF 0 0 = (0xB4F0C1C6, 0x255FFA25) := by decide

theorem test_f_keys : f 0x12345678 0x9ABCDEF0 0x0F1E2D3C 0x4B5A6978 = (0xD5278637, 0x94DE2722) := by decide

set_option maxRecDepth 20000 in
/-- The published round keys (95, section 2.2). -/
theorem test_keySchedule_zero : keySchedule (bytesOfBus 0) = zeroKeyRoundKeys := by decide +kernel

set_option maxRecDepth 20000 in
/-- Two of the further blocks (95, section 6), the round keys computed. -/
theorem test_transform_further_blocks :
    busOfBytes (transform (keySchedule (bytesOfBus 0x0123456789ABCDEFFEDCBA9876543210))
      (bytesOfBus 0x00112233445566778899AABBCCDDEEFF) .encrypt) = 0x778D1F07DC2F605179F3F78DC8AC872A ∧
    busOfBytes (transform (keySchedule (bytesOfBus 0x0123456789ABCDEFFEDCBA9876543210))
      (bytesOfBus 0x00112233445566778899AABBCCDDEEFF) .decrypt) = 0xDE41743E9BE09E3C44EB9FF5628F8459 := by
  decide +kernel

/-! The rounds (95, sections 5 and 6). -/

/-- Key 000102...0F, round 0. -/
theorem test_ksRound_even :
    after (inSchedule 0 ⟨0x00010203, 0x04050607, 0x08090A0B, 0x0C0D0E0F⟩)
      (fun t => (rkRead t.rk 0, rkRead t.rk 1, t.keyRegs, t.rnd, t.status)) =
    some (0xC119F584, 0x5AE033A0, ⟨0x07000102, 0x03040506, 0x08090A0B, 0x0C0D0E0F⟩, 1, 0x01) := by decide +kernel

/-- The same key, round 1. -/
theorem test_ksRound_odd :
    after (inSchedule 1 ⟨0x07000102, 0x03040506, 0x08090A0B, 0x0C0D0E0F⟩)
      (fun t => (rkRead t.rk 2, rkRead t.rk 3, t.keyRegs, t.rnd)) =
    some (0x62947390, 0xA600AD14, ⟨0x07000102, 0x03040506, 0x090A0B0C, 0x0D0E0F08⟩, 2) := by decide +kernel

/-- The same key, round 15: the registers are cleared and the key is valid. -/
theorem test_ksRound_last :
    after (inSchedule 15 ⟨0x00010203, 0x04050607, 0x0F08090A, 0x0B0C0D0E⟩)
      (fun t => (rkRead t.rk 30, rkRead t.rk 31, t.keyRegs, t.status, t.rspCode)) =
    some (0xFECCEA48, 0xA4EF9F9B, ⟨0, 0, 0, 0⟩, 0x02, some 0) := by decide +kernel

/-- B1, the first round of ENC. -/
theorem test_crRound_enc_first :
    after (inRounds .encrypt 0 ⟨0x00010203, 0x04050607, 0x08090A0B, 0x0C0D0E0F⟩ zeroKeyRoundKeys)
      (fun t => (t.halves, t.rnd, t.status)) =
    some (⟨0x08090A0B, 0x0C0D0E0F, 0x8081BC57, 0xC4EA8A1F⟩, 1, 0x03) := by decide +kernel

/-- B1, the sixteenth round of ENC: no swap. -/
theorem test_crRound_enc_last :
    after (inRounds .encrypt 15 ⟨0x1A415792, 0xA02B8C54, 0x19AFF1CC, 0x6D346CDB⟩ zeroKeyRoundKeys)
      (fun t => (t.dout, t.halves, t.fsm)) =
    some (0x5EBAC6E0054E166819AFF1CC6D346CDB, ⟨0, 0, 0, 0⟩, .idle) := by decide +kernel

/-- The first round of DEC uses the key pair 15. -/
theorem test_crRound_dec_first :
    after (inRounds .decrypt 0 ⟨0x5EBAC6E0, 0x054E1668, 0x19AFF1CC, 0x6D346CDB⟩ zeroKeyRoundKeys) State.halves =
    some ⟨0x19AFF1CC, 0x6D346CDB, 0x1A415792, 0xA02B8C54⟩ := by decide +kernel

/-- The sixteenth round of DEC uses the key pair 0. -/
theorem test_crRound_dec_last :
    after (inRounds .decrypt 15 ⟨0x8081BC57, 0xC4EA8A1F, 0x08090A0B, 0x0C0D0E0F⟩ zeroKeyRoundKeys) State.dout =
    some 0x000102030405060708090A0B0C0D0E0F := by decide +kernel

/-! The commands' accept steps (95, sections 5 to 7). -/

theorem test_keyld_loads_big_endian :
    after (presented 0x10000010 0x000102030405060708090A0B0C0D0E0F) (fun t => (t.keyRegs, t.rsp, t.status)) =
    some (⟨0x00010203, 0x04050607, 0x08090A0B, 0x0C0D0E0F⟩, none, 0x01) := by decide

theorem test_keyld_lengths :
    [0x10000000, 0x1000000F, 0x10000011, 0x10000020, 0x10000FFF].map
      (fun w => after (presented w 0) (fun t => (t.rspCode, t.rspInfo, t.status))) =
    [some (some 1, 0x000, 0x00), some (some 1, 0x00F, 0x00), some (some 1, 0x011, 0x00),
     some (some 2, 0x020, 0x00), some (some 1, 0xFFF, 0x00)] := by decide

theorem test_enc_captures_block :
    after (presentedKeyed 0x20FFFFFF 0x000102030405060708090A0B0C0D0E0F)
      (fun t => (t.halves, t.dir, t.status, t.cmdReady)) =
    some (⟨0x00010203, 0x04050607, 0x08090A0B, 0x0C0D0E0F⟩, .encrypt, 0x03, false) := by decide

theorem test_enc_fatal :
    [presentedKeyed 0x2001000F 0, presentedKeyed 0x20000000 0, presented 0x20010010 0].map
      (fun s => after s (fun t => (t.rspCode, t.rspInfo, t.status))) =
    [some (some 0x8, 0x00F, 0x86), some (some 0x8, 0x000, 0x86), some (some 0xA, 0x000, 0xA4)] := by decide

theorem test_dec_captures_block :
    after (presentedKeyed 0x30010010 0x5EBAC6E0054E166819AFF1CC6D346CDB) (fun t => (t.halves, t.dir)) =
    some (⟨0x5EBAC6E0, 0x054E1668, 0x19AFF1CC, 0x6D346CDB⟩, .decrypt) := by decide

theorem test_dec_fatal :
    [presentedKeyed 0x3000F010 0, presented 0x30000000 0].map
      (fun s => after s (fun t => (t.rspCode, t.rspInfo, t.status))) =
    [some (some 0x9, 0x00F, 0x96), some (some 0xA, 0x000, 0xA4)] := by decide

theorem test_blksz :
    after (presented 0x40000000 0) (fun t => (t.rspCode, t.rspInfo, t.status)) = some (some 0x0, 0x010, 0x00) := by decide

theorem test_clr :
    after { presented 0x50000000 0 with keyValid := true, rk := zeroKeyRoundKeys }
      (fun t => (t.rspCode, t.rk, t.status)) = some (some 0x0, Vector.replicate 32 0, 0x00) := by decide

theorem test_reserved :
    [presented 0 0, presentedKeyed 0 0].map (fun s => after s (fun t => (t.rspCode, t.rspInfo, t.dout, t.status))) =
    [some (some 0xB, 0, 0, 0xB4), some (some 0xB, 0, 0, 0xB6)] := by decide

/-- A reset in the middle of a schedule (rule R131). -/
theorem test_reset_in_schedule :
    after { inSchedule 7 ⟨1, 2, 3, 4⟩ with rst := [true] } (fun t => (t.keyRegs, t.rnd, t.status, t.rspValid)) =
    some (⟨0, 0, 0, 0⟩, 0, 0x00, false) := by decide

/-- P2's last command (95, section 8) is never accepted; with a reset to come the engine waits for it (rule R121). -/
theorem test_fatal_stuck : step { inFatal [] with cmdValid := true, cmd := 0x40000000 } = .fault .stuckInFatal := rfl

theorem test_fatal_waits : after (inFatal [false, true]) (fun t => (t.fsm, t.fatalCause, t.rst)) =
    some (.fatal, 0xB, [true]) := by decide

/-- A command presented while busy waits (rule R52). -/
theorem test_busy_waits :
    after { inSchedule 3 ⟨1, 2, 3, 4⟩ with cmdValid := true, cmd := 0x40000000, pending := [some ⟨0, 0⟩] }
      (fun t => (t.cmdValid, t.cmd, t.pending.length)) = some (true, 0x40000000, 1) := by decide +kernel

/-- The word placed by `withFetchWord` is what the next step runs. -/
theorem test_withFetchWord :
    after (State.reset.withFetchWord 32 0x40000000) (fun t => t.rspInfo) = some 16 := by decide

/-! Witnesses: states and operands that meet a statement's hypotheses together, at the boundary values of its clauses. -/

theorem witness_DecodedWordEncodesBack : decode 0x20010010 = .command (.enc 16 16) := by decide

theorem witness_OpcodeMapSelectsCommand :
    ∃ r ∈ opcodeRows, r.selects 0x10000FFF = true ∧ r.mnemonic = "KEYLD" := ⟨_, .head _, by decide, rfl⟩

theorem witness_ReservedEncodingIsFatal :
    AcceptsWord (presented 0x10001010 0) ∧ SelectsNoRow (presented 0x10001010 0).cmd := by
  refine ⟨by decide, ?_⟩
  intro r hr
  simp only [opcodeRows, List.mem_cons, List.not_mem_nil, or_false] at hr
  obtain rfl | rfl | rfl | rfl | rfl := hr <;> decide

theorem witness_AssembledLinePresentsCommand : (5 : Nat) < 16 ∧ (4 : Nat) < 5 ∧ ¬ (5 : Nat) < 5 ∧ (15 : Nat) < 16 := by decide

/-- The last byte a line of five bytes gives, and the first it does not (for DEC, log 19). -/
theorem witness_AssembledLinePresentsCommand_boundary :
    let x := bytesOfBus 0x000102030405060708090A0B0C0D0E0F
    [AsmLine.keyld 5 x, .enc 5 16 x, .dec 5 16 x].map
        (fun l => ((bytesOfBus (assemble l).din)[4], (bytesOfBus (assemble l).din)[5])) =
      [(4, 0), (4, 0), (4, 0)] := by decide

theorem witness_SaturationChangesNoOutcome : Params.default.wellFormed = true ∧
    32 ∈ Params.default.unsupportedKeyLens := by decide

theorem witness_KeyWordsTurnFully : (16 : Nat) ≤ 16 := by decide

theorem witness_ResetAbandonsEverything :
    State.rstAsserted { inRounds .encrypt 9 ⟨1, 2, 3, 4⟩ zeroKeyRoundKeys with rst := [true] } = true := by decide

theorem witness_KeyldAcceptStep : (32 ∈ State.reset.params.unsupportedKeyLens) ∧
    ((15#12 ∉ State.reset.params.unsupportedKeyLens ∧ 15#12 ≠ 16#12) ∧
      (17#12 ∉ State.reset.params.unsupportedKeyLens ∧ 17#12 ≠ 16#12)) ∧
    16#12 ∉ State.reset.params.unsupportedKeyLens := by decide

theorem witness_EncStartsRounds : TransformAllowed 16 16 (presentedKeyed 0x20010010 0) := by decide

theorem witness_DecStartsRounds : TransformAllowed 16 4095 (presentedKeyed 0x30FFF010 0) := by decide

theorem witness_TransformFatalExceptions : State.reset.keyValid = false ∧
    ((presentedKeyed 0 0).keyValid = true ∧ 15#12 < 16#12) ∧
    ((presentedKeyed 0 0).keyValid = true ∧ 16#12 ≤ 16#12 ∧ 15#12 < 16#12) := by decide

theorem witness_AcceptStepFrames :
    (∃ t, exec (.keyld 16) State.reset = .next t) ∧ (∃ t, exec (.keyld 17) State.reset = .next t) ∧
    (∃ t, exec (transformInstr .encrypt 16 16) (presentedKeyed 0 0) = .next t ∧
      TransformAllowed 16 16 (presentedKeyed 0 0)) ∧
    (∃ t, exec (transformInstr .decrypt 15 16) (presentedKeyed 0 0) = .next t ∧
      ¬ TransformAllowed 15 16 (presentedKeyed 0 0)) ∧
    (∃ t, exec .blksz State.reset = .next t) ∧ (∃ t, exec .clr State.reset = .next t) :=
  ⟨⟨_, rfl⟩, ⟨_, rfl⟩, ⟨_, rfl, by decide⟩, ⟨_, rfl, by decide⟩, ⟨_, rfl⟩, ⟨_, rfl⟩⟩

theorem witness_StepRunsDecodedCommand :
    Accepts .blksz (presented 0x40000000 0) ∧
    Accepts (.keyld 17) { presented 0x10000011 0 with pending := [none] } ∧
    Accepts .clr { presented 0x50000000 0 with pending := [some ⟨0x40000000, 0⟩] } := by decide

theorem witness_KeyScheduleRoundStep :
    (∀ n ∈ [0#4, 1#4, 14#4, 15#4],
      (inSchedule n ⟨1, 2, 3, 4⟩).fsm = .ks ∧ (inSchedule n ⟨1, 2, 3, 4⟩).rstAsserted = false) ∧
    (14#4).toNat < 15 ∧ (14#4).toNat % 2 = 0 ∧ (13#4).toNat % 2 = 1 := by decide

theorem witness_FeistelRoundStep :
    (inRounds .decrypt 15 ⟨1, 2, 3, 4⟩ zeroKeyRoundKeys).fsm = .cr ∧
    (inRounds .encrypt 14 ⟨1, 2, 3, 4⟩ zeroKeyRoundKeys).fsm = .cr ∧ (14#4).toNat < 15 ∧
    (inRounds .encrypt 14 ⟨1, 2, 3, 4⟩ zeroKeyRoundKeys).rstAsserted = false := by decide

theorem witness_SequencerTransitions : ∃ t, step (presented 0x10000010 7) = .next t := ⟨_, rfl⟩

theorem witness_PresentedCommandWaits :
    ∃ t, step { inSchedule 15 ⟨1, 2, 3, 4⟩ with cmdValid := true } = .next t ∧
      State.cmdValid { inSchedule 15 ⟨1, 2, 3, 4⟩ with cmdValid := true } = true ∧
      (inSchedule 15 ⟨1, 2, 3, 4⟩).fsm ≠ .idle := ⟨_, rfl, rfl, by decide⟩

theorem witness_FatalIsLeftByResetAlone :
    ((inFatal [false, true]).rstAsserted = false ∧ (inFatal [false, true]).resetToCome = true) ∧
    ((inFatal []).rstAsserted = false ∧ (inFatal []).resetToCome = false) := by decide

theorem witness_StepStopsOnlyInFatal : State.reset.fsm ≠ .fatal ∧ (inFatal [true]).rstAsserted = true := by decide

theorem witness_IdleKeepsState :
    State.reset.fsm = .idle ∧ State.reset.cmdValid = false ∧ State.reset.rstAsserted = false := by decide

theorem witness_ParametersNeverChange : ∃ t, step State.reset = .next t ∧ State.reset.rstAsserted = false :=
  ⟨_, rfl, rfl⟩

theorem witness_BlkszAnswersSixteen : fieldOp 0x40000001 = 0x4#4 ∧ (0x40000001 : Word) ≠ 0x40000000 := by decide

theorem witness_ClrZeroesRoundKeys :
    (fieldOp 0x50010000 = 0x5#4 ∧ (0x50010000 : Word) ≠ 0x50000000) ∧
    ((inSchedule 15 ⟨1, 2, 3, 4⟩).keyValid = false ∧ ∃ v, step (inSchedule 15 ⟨1, 2, 3, 4⟩) = .next v) ∧
    (presented 0x50000000 0).keyValid = false ∧ ∃ v, step (presented 0x50000000 0) = .next v :=
  ⟨by decide, ⟨rfl, _, rfl⟩, rfl, _, rfl⟩

theorem witness_FatalEntryWritesCauseAlone :
    ∃ t, step (presented 0 0) = .next t ∧ (presented 0 0).fsm ≠ .fatal ∧ t.fsm = .fatal := ⟨_, rfl, by decide, rfl⟩

theorem witness_WrongKeyLengthIsRecoverable :
    (Accepts (.keyld 17) (presented 0x10000011 0) ∧ 17#12 ≠ 16#12) ∧
    (Accepts (.keyld 32) (presented 0x10000020 0) ∧ 32#12 ≠ 16#12) := by decide

theorem witness_ResponsesAreEmittedOnce :
    ∃ t, step (presented 0x40000000 0) = .next t ∧ (presented 0x40000000 0).rstAsserted = false ∧ t.rsp ≠ none :=
  ⟨_, rfl, rfl, by decide⟩

theorem witness_ResponsesAreEmittedOnce_dout :
    ∃ t, step (inRounds .encrypt 15 ⟨0x1A415792, 0xA02B8C54, 0x19AFF1CC, 0x6D346CDB⟩ zeroKeyRoundKeys) = .next t ∧
      t.dout ≠ 0 := ⟨_, rfl, by decide +kernel⟩

theorem witness_RoundKeyWriters :
    ∃ t, step { presented 0x50000000 0 with rk := zeroKeyRoundKeys } = .next t ∧ t.rk ≠ zeroKeyRoundKeys :=
  ⟨_, rfl, by decide⟩

theorem witness_KeyValidWriters :
    (∃ t, step (inSchedule 15 ⟨1, 2, 3, 4⟩) = .next t ∧ t.keyValid ≠ (inSchedule 15 ⟨1, 2, 3, 4⟩).keyValid ∧
      t.keyValid = true) ∧
    (∃ t, step (presentedKeyed 0x10000010 0) = .next t ∧ t.keyValid ≠ (presentedKeyed 0x10000010 0).keyValid ∧
      t.keyValid = false) := ⟨⟨_, rfl, by decide, rfl⟩, ⟨_, rfl, by decide, rfl⟩⟩

theorem witness_KeyMaterialStaysInside : (inSchedule 4 ⟨1, 2, 3, 4⟩).fsm ≠ .cr := by decide

theorem witness_ControlIgnoresData :
    ∃ u, u = State.setHalves (State.setKeyRegs { State.reset with din := 9, rk := zeroKeyRoundKeys } ⟨1, 2, 3, 4⟩)
      ⟨5, 6, 7, 8⟩ := ⟨_, rfl⟩

/-- The middle of a real schedule: the invariant holds in `KS`, and the step answers a next state. -/
theorem witness_StepKeepsInvariant :
    Inv (presented 0x10000010 7).startSchedule ∧ ∃ t, step (presented 0x10000010 7).startSchedule = .next t := by
  refine ⟨⟨⟨?_, ?_, ?_⟩, ⟨?_, ?_⟩, ⟨?_, ?_⟩, ?_, ?_⟩, ⟨_, rfl⟩⟩
  · intro h; exact absurd rfl h
  · intro _; rfl
  · intro h; exact absurd rfl h
  · constructor <;> intro h <;> revert h <;> decide
  · intro h; cases h
  · intro _; rfl
  · intro h; cases h
  · intro h; cases h
  · intro _; exact ⟨bytesOfBus 7, Vector.replicate 32 0, by decide⟩

theorem witness_StepKeepsSequencerInvariant :
    RestingRegisters (presented 0x10000010 7).startSchedule ∧ CauseRecorded (presented 0x10000010 7).startSchedule ∧
      KeyFlagFits (presented 0x10000010 7).startSchedule ∧
      ∃ t, step (presented 0x10000010 7).startSchedule = .next t :=
  have h := witness_StepKeepsInvariant
  ⟨h.1.1, h.1.2.1, h.1.2.2.1, h.2⟩

theorem witness_KeyldComputesSchedule :
    Accepts (.keyld 16#12) (presented 0x10000010 7) ∧ NoResetFor 17 (presented 0x10000010 7) ∧
      16#12 ∉ (presented 0x10000010 7).params.unsupportedKeyLens := by decide

theorem witness_TransformCommandComputesTransform :
    (Accepts (transformInstr .encrypt 16 16) (presentedKeyed 0x20010010 7) ∧
      NoResetFor 17 (presentedKeyed 0x20010010 7) ∧ TransformAllowed 16 16 (presentedKeyed 0x20010010 7)) ∧
    (Accepts (transformInstr .decrypt 16 4095) (presentedKeyed 0x30FFF010 7) ∧
      NoResetFor 17 (presentedKeyed 0x30FFF010 7) ∧ TransformAllowed 16 4095 (presentedKeyed 0x30FFF010 7)) := by decide

/-- ENC with DEC of its result waiting behind it. -/
def encThenDec : State :=
  { presentedKeyed 0x20010010 7 with
    pending := [some ⟨0x30010010, busOfBytes (transform State.reset.rk (bytesOfBus 7) .encrypt)⟩] }

theorem witness_EncThenDecGivesBlockBack :
    Accepts (.enc 16 16) encThenDec ∧ NoResetFor 34 encThenDec ∧ TransformAllowed 16 16 encThenDec ∧
      encThenDec.pending = some ⟨0x30010010, busOfBytes (transform encThenDec.rk (bytesOfBus encThenDec.din) .encrypt)⟩ :: [] ∧
      decode 0x30010010 = .command (.dec 16 16) ∧ 16#12 ≤ 16#12 := by
  refine ⟨by decide, by decide, by decide, rfl, by decide, by decide⟩

theorem witness_CommandsAnswerInStepCount :
    (AcceptsWord (presented 0 0) ∧ NoResetFor 17 (presented 0 0) ∧ stepsOfWord 0 (presented 0 0) = 1) ∧
    (AcceptsWord (presented 0x10000010 0) ∧ NoResetFor 17 (presented 0x10000010 0) ∧
      stepsOfWord 0x10000010 (presented 0x10000010 0) = 17) := by decide

theorem witness_ResultFromVisibleInputs :
    AcceptsWord (presentedKeyed 0x20010010 7) ∧ AcceptsWord { presentedKeyed 0x20010010 7 with dir := .decrypt, l0 := 5 } ∧
      NoResetFor 17 (presentedKeyed 0x20010010 7) ∧
      NoResetFor 17 { presentedKeyed 0x20010010 7 with dir := .decrypt, l0 := 5 } ∧
      (presentedKeyed 0x20010010 7).rk = State.rk { presentedKeyed 0x20010010 7 with dir := .decrypt, l0 := 5 } := by
  decide

/-- `AfterReset`, `KeyLoaded` and the ended run of rule R145 and rule R143 have states that meet them. -/
theorem witness_premises :
    AfterReset State.reset ∧ RunEnded State.reset ∧ NoFatal State.reset ∧ GoodParams State.reset ∧
      HonestLength 5000 4095 ∧ KeyLoaded (bytesOfBus 7) { State.reset with keyValid := true, rk := keySchedule (bytesOfBus 7) } :=
  ⟨by decide, by decide, by decide, by decide, by decide, rfl, rfl⟩

end Sys2Proof.Tests
end

section
/-! SUPPORT. The step as one equation a case, and what commands, rounds and responses carry along unchanged: the OPEN
parameters (rule R3), the reset counter (log 3) and the host's side of the ports (rule R50). -/

namespace Sys2Proof.Machine

/-! The step, an equation for each of its cases (rules R15, R126, R131). -/

section StepEquations

variable {s : State}

theorem step_of_rst (hr : s.rstAsserted = true) : step s = .next (s.resetEvent.hostMoves false) := by
  simp [step, hr]

theorem step_of_ks (hr : s.rstAsserted = false) (hf : s.fsm = .ks) : step s = .next (s.ksRound.hostMoves false) := by
  simp [step, hr, hf]

theorem step_of_cr (hr : s.rstAsserted = false) (hf : s.fsm = .cr) : step s = .next (s.crRound.hostMoves false) := by
  simp [step, hr, hf]

theorem step_of_fatal_waiting (hr : s.rstAsserted = false) (hf : s.fsm = .fatal) (hc : s.resetToCome = true) :
    step s = .next (s.noResponse.hostMoves false) := by
  simp [step, hr, hf, hc]

theorem step_of_fatal_stuck (hr : s.rstAsserted = false) (hf : s.fsm = .fatal) (hc : s.resetToCome = false) :
    step s = .fault .stuckInFatal := by
  simp [step, hr, hf, hc]

theorem step_of_idle (hr : s.rstAsserted = false) (hf : s.fsm = .idle) (hv : s.cmdValid = false) :
    step s = .next (s.noResponse.hostMoves false) := by
  simp [step, hr, hf, hv]

theorem step_of_acceptsWord (h : AcceptsWord s) : step s = mapNext (fun t => t.hostMoves true) (acceptStep s) := by
  obtain ⟨hr, hf, hv⟩ := h
  simp [step, hr, hf, hv]

theorem acceptStep_of_command {i : Instr} (h : decode s.cmd = .command i) : acceptStep s = exec i s := by
  simp [acceptStep, h]

theorem acceptStep_of_reserved {why : Reserved} (h : decode s.cmd = .reserved why) :
    acceptStep s = .next s.illegalCommand := by
  simp [acceptStep, h]

theorem step_of_accepts {i : Instr} {u : State} (h : Accepts i s) (hu : exec i s = .next u) :
    step s = .next (u.hostMoves true) := by
  rw [step_of_acceptsWord h.1, acceptStep_of_command h.2, hu, mapNext]

end StepEquations

/-! The host's next entry on a free port (rules R52, R135; log 6). -/

theorem refillPort_of_nil {s : State} (h : s.pending = []) : s.refillPort = s.presentNothing := by
  simp [State.refillPort, h]

theorem refillPort_of_none {s : State} {rest : List (Option Command)} (h : s.pending = none :: rest) :
    s.refillPort = State.presentNothing { s with pending := rest } := by
  simp [State.refillPort, h]

theorem refillPort_of_some {s : State} {c : Command} {rest : List (Option Command)} (h : s.pending = some c :: rest) :
    s.refillPort = State.present { s with pending := rest } c := by
  simp [State.refillPort, h]

theorem hostMoves_accepted_of_nil {s : State} (h : s.pending = []) :
    s.hostMoves true = State.presentNothing { s with rst := s.rst.tail } :=
  (hostMoves_accepted s).trans (refillPort_of_nil h)

theorem hostMoves_accepted_of_none {s : State} {rest : List (Option Command)} (h : s.pending = none :: rest) :
    s.hostMoves true = State.presentNothing { s with rst := s.rst.tail, pending := rest } :=
  (hostMoves_accepted s).trans (refillPort_of_none h)

theorem hostMoves_accepted_of_some {s : State} {c : Command} {rest : List (Option Command)}
    (h : s.pending = some c :: rest) :
    s.hostMoves true = State.present { s with rst := s.rst.tail, pending := rest } c :=
  (hostMoves_accepted s).trans (refillPort_of_some h)

/-! What the state carries along. -/

/-- The parts of the state that no command and no round writes: the OPEN parameters, the reset counter and the host's side of
the ports. -/
def carried (s : State) : Params × Nat × List Bool × Bool × Word × Bus × List (Option Command) :=
  (s.params, s.resets, hostSide s)

theorem params_of_carried {t s : State} (h : carried t = carried s) : t.params = s.params :=
  congrArg (·.1) h

theorem resets_of_carried {t s : State} (h : carried t = carried s) : t.resets = s.resets :=
  congrArg (·.2.1) h

theorem hostSide_of_carried {t s : State} (h : carried t = carried s) : hostSide t = hostSide s :=
  congrArg (·.2.2) h

theorem rst_of_hostSide {t s : State} (h : hostSide t = hostSide s) : t.rst = s.rst :=
  congrArg (·.1) h

theorem pending_of_hostSide {t s : State} (h : hostSide t = hostSide s) : t.pending = s.pending :=
  congrArg (·.2.2.2.2) h

@[simp] theorem carried_noResponse (s : State) : carried s.noResponse = carried s := rfl

@[simp] theorem carried_raiseFatal (s : State) (e : RspCode) (n : BitVec 12) :
    carried (s.raiseFatal e n) = carried s := rfl

@[simp] theorem carried_raiseRecoverable (s : State) (e : RspCode) (n : BitVec 12) :
    carried (s.raiseRecoverable e n) = carried s := rfl

@[simp] theorem carried_illegalCommand (s : State) : carried s.illegalCommand = carried s := rfl

@[simp] theorem carried_startSchedule (s : State) : carried s.startSchedule = carried s := rfl

@[simp] theorem carried_startTransform (s : State) (dir : Dir) : carried (s.startTransform dir) = carried s := rfl

@[simp] theorem carried_acceptTransform (s : State) (dir : Dir) (slen dlen : Len) :
    carried (s.acceptTransform dir slen dlen) = carried s := by
  obtain ⟨-, h⟩ | ⟨-, -, h⟩ | ⟨-, -, -, h⟩ | ⟨-, -, -, h⟩ := acceptTransform_cases s dir slen dlen <;> simp [h]

@[simp] theorem carried_ksRound (s : State) : carried s.ksRound = carried s := by
  by_cases h : s.rnd.toNat < 15
  · rw [ksRound_of_lt s h]; rfl
  · rw [ksRound_of_last s h]; rfl

@[simp] theorem carried_crRound (s : State) : carried s.crRound = carried s := by
  by_cases h : s.rnd.toNat < 15
  · rw [crRound_of_lt s h]; rfl
  · rw [crRound_of_last s h]; rfl

/-- No accept step writes the parameters, the reset counter or the host's side of the ports. -/
theorem carried_of_exec {i : Instr} {s u : State} (hu : exec i s = .next u) : carried u = carried s := by
  cases i with
  | keyld len =>
    obtain ⟨-, h⟩ | ⟨-, -, h⟩ | ⟨-, -, h⟩ := execKeyld_cases len s <;> cases h.symm.trans hu <;> simp
  | enc slen dlen => cases hu; exact carried_acceptTransform s .encrypt slen dlen
  | dec slen dlen => cases hu; exact carried_acceptTransform s .decrypt slen dlen
  | blksz => cases hu; rfl
  | clr => cases hu; rfl

/-! Other values of the parameters no rule depends on (U11 of 93_implementation_defined.md): every operation of the engine
commutes with `retune`. -/

section Retune

variable (n : Nat) (y : ResetStyle) (m : HostBusMap) (s : State)

@[simp] theorem rstAsserted_retune : (retune n y m s).rstAsserted = s.rstAsserted := rfl

@[simp] theorem resetToCome_retune : (retune n y m s).resetToCome = s.resetToCome := rfl

@[simp] theorem noResponse_retune : (retune n y m s).noResponse = retune n y m s.noResponse := rfl

@[simp] theorem resetEvent_retune : (retune n y m s).resetEvent = retune n y m s.resetEvent := rfl

@[simp] theorem illegalCommand_retune : (retune n y m s).illegalCommand = retune n y m s.illegalCommand := rfl

@[simp] theorem presentNothing_retune : (retune n y m s).presentNothing = retune n y m s.presentNothing := rfl

@[simp] theorem acceptTransform_retune (dir : Dir) (slen dlen : Len) :
    (retune n y m s).acceptTransform dir slen dlen = retune n y m (s.acceptTransform dir slen dlen) := by
  unfold State.acceptTransform
  rw [retune_keyValid]
  split_ifs <;> rfl

@[simp] theorem ksRound_retune : (retune n y m s).ksRound = retune n y m s.ksRound := by
  by_cases h : s.rnd.toNat < 15
  · rw [ksRound_of_lt s h, ksRound_of_lt (retune n y m s) h]; rfl
  · rw [ksRound_of_last s h, ksRound_of_last (retune n y m s) h]; rfl

@[simp] theorem crRound_retune : (retune n y m s).crRound = retune n y m s.crRound := by
  by_cases h : s.rnd.toNat < 15
  · rw [crRound_of_lt s h, crRound_of_lt (retune n y m s) h]; rfl
  · rw [crRound_of_last s h, crRound_of_last (retune n y m s) h]; rfl

@[simp] theorem refillPort_retune : (retune n y m s).refillPort = retune n y m s.refillPort := by
  match h : s.pending with
  | [] => rw [refillPort_of_nil h, refillPort_of_nil (s := retune n y m s) h, presentNothing_retune]
  | none :: _ => rw [refillPort_of_none h, refillPort_of_none (s := retune n y m s) h]; rfl
  | some _ :: _ => rw [refillPort_of_some h, refillPort_of_some (s := retune n y m s) h]; rfl

@[simp] theorem hostMoves_retune (accepted : Bool) :
    (retune n y m s).hostMoves accepted = retune n y m (s.hostMoves accepted) := by
  have hport := refillPort_retune n y m { s with rst := s.rst.tail }
  unfold State.hostMoves
  rw [apply_ite (retune n y m), ← hport]
  rfl

/-- Every accept step commutes with `retune`. -/
theorem exec_retune (i : Instr) : exec i (retune n y m s) = mapNext (retune n y m) (exec i s) := by
  cases i with
  | keyld len =>
    obtain ⟨hl, h⟩ | ⟨hl, h16, h⟩ | ⟨hl, h16, h⟩ := execKeyld_cases len s <;> rw [h]
    · exact if_pos hl
    · exact (if_neg hl).trans (if_pos h16)
    · exact (if_neg hl).trans (if_neg (not_not_intro h16))
  | enc slen dlen => simp [exec, execEnc, mapNext]
  | dec slen dlen => simp [exec, execDec, mapNext]
  | blksz => rfl
  | clr => rfl

theorem acceptStep_retune : acceptStep (retune n y m s) = mapNext (retune n y m) (acceptStep s) := by
  cases h : decode s.cmd with
  | command i =>
    rw [acceptStep_of_command h, acceptStep_of_command (s := retune n y m s) h, exec_retune]
  | reserved why =>
    rw [acceptStep_of_reserved h, acceptStep_of_reserved (s := retune n y m s) h, illegalCommand_retune, mapNext]

theorem mapNext_hostMoves_retune (accepted : Bool) (o : Host.Outcome State Fault Refusal) :
    mapNext (fun t => t.hostMoves accepted) (mapNext (retune n y m) o) =
      mapNext (retune n y m) (mapNext (fun t => t.hostMoves accepted) o) := by
  cases o <;> simp [mapNext]

/-- Every step commutes with `retune`, the fault of a step in `FATAL` with no reset to come included. -/
theorem step_retune : step (retune n y m s) = mapNext (retune n y m) (step s) := by
  cases hr : s.rstAsserted with
  | true => simp [step_of_rst, hr, mapNext]
  | false =>
    cases hf : s.fsm with
    | ks => simp [step_of_ks, hr, hf, mapNext]
    | cr => simp [step_of_cr, hr, hf, mapNext]
    | fatal =>
      cases hc : s.resetToCome with
      | true => simp [step_of_fatal_waiting, hr, hf, hc, mapNext]
      | false => simp [step_of_fatal_stuck, hr, hf, hc, mapNext]
    | idle =>
      cases hv : s.cmdValid with
      | false => simp [step_of_idle, hr, hf, hv, mapNext]
      | true =>
        have hs : AcceptsWord s := ⟨hr, hf, hv⟩
        rw [step_of_acceptsWord hs, step_of_acceptsWord (s := retune n y m s) hs, acceptStep_retune,
          mapNext_hostMoves_retune]

theorem stepsOf_retune (i : Instr) : stepsOf i (retune n y m s) = stepsOf i s := by
  cases i <;> rfl

theorem stepsOfWord_retune (w : Word) : stepsOfWord w (retune n y m s) = stepsOfWord w s := by
  simp only [stepsOfWord, stepsOf_retune]

end Retune

end Sys2Proof.Machine
end

section
/-! PROOFS. The statements about the model's scope (00_scope.md): the OPEN parameters and the accept step. -/

namespace Sys2Proof

open Machine

/-- Settles O37: of the kinds of step, reset alone writes something `carried` holds beside the ports, its own counter. -/
theorem parametersNeverChange : Obligations.ParametersNeverChange := by
  intro s t h
  have keeps {u : State} (p : Bool) (hu : carried u = carried s) :
      (u.hostMoves p).params = s.params ∧ (s.rstAsserted = false → (u.hostMoves p).resets = s.resets) := by
    simp [params_of_carried hu, resets_of_carried hu]
  obtain ⟨hr, rfl⟩ | ⟨-, ⟨-, -, rfl⟩ | ⟨-, rfl⟩ | ⟨-, rfl⟩ | ⟨-, -, rfl⟩ | ⟨-, -, ⟨i, u, -, hu, rfl⟩ | ⟨why, -, rfl⟩⟩⟩ :=
    step_cases s t h
  · simp [hr]
  · exact keeps false (carried_noResponse s)
  · exact keeps false (carried_ksRound s)
  · exact keeps false (carried_crRound s)
  · exact keeps false (carried_noResponse s)
  · exact keeps true (carried_of_exec hu)
  · exact keeps true (carried_illegalCommand s)

/-- Settles O55: steps and accept steps commute with `retune`, and the step counts do not see it. -/
theorem openParametersChangeNothing : Obligations.OpenParametersChangeNothing :=
  fun cycles style map s =>
    ⟨step_retune cycles style map s, exec_retune cycles style map s, stepsOfWord_retune cycles style map s⟩

/-- Settles O29: the accept step leaves the host's side as it was, so the host's move is made from `s.rst` and `s.pending`. -/
theorem stepRunsDecodedCommand : Obligations.StepRunsDecodedCommand := by
  intro i s h
  obtain ⟨u, hu⟩ := exec_answers_next i s
  have hside : hostSide u = hostSide s := hostSide_of_carried (carried_of_exec hu)
  have hrst : u.rst = s.rst := rst_of_hostSide hside
  have hpend : u.pending = s.pending := pending_of_hostSide hside
  refine ⟨u, u.hostMoves true, hu, step_of_accepts h hu, engine_hostMoves u true, by simp [hrst], ?_⟩
  rw [← hpend]
  refine ⟨fun hp => ?_, fun rest hp => ?_, fun c rest hp => ?_⟩
  · rw [hostMoves_accepted_of_nil hp]; exact ⟨rfl, hp⟩
  · rw [hostMoves_accepted_of_none hp]; exact ⟨rfl, rfl⟩
  · rw [hostMoves_accepted_of_some hp]; exact ⟨rfl, rfl, rfl, rfl⟩

end Sys2Proof
end

section
/-! SUPPORT. The words a step captures from the bus (rules R43, R44), the rotate in its two forms (rules R78, R80), and the
schedule's independence of the array it begins over (rule R75). -/

namespace Sys2Proof.Machine

/-! Words of the bus. -/

theorem getElem_bytesOfBus (x : Bus) (k : Nat) (hk : k < 16) : (bytesOfBus x)[k] = busByte x k := by
  interval_cases k <;> rfl

/-- A big-endian word of the bytes on a bus is 32 bits of the bus in a row (rules R6, R44). -/
theorem be32_bytesOfBus (x : Bus) (k : Nat) (hk : k + 3 < 16) :
    be32 (bytesOfBus x) k hk = x.extractLsb' (96 - 8 * k) 32 := by
  rw [be32_eq_append]
  simp only [getElem_bytesOfBus, busByte]
  rw [BitVec.extractLsb'_append_extractLsb'_eq_extractLsb' (by omega),
    BitVec.extractLsb'_append_extractLsb'_eq_extractLsb' (by omega),
    BitVec.extractLsb'_append_extractLsb'_eq_extractLsb' (by omega)]
  congr 1
  omega

/-- The accept step of KEYLD loads the words of the key on the bus. -/
theorem startSchedule_keyRegs (s : State) : s.startSchedule.keyRegs = KeyRegs.ofKey (bytesOfBus s.din) := by
  simp [State.keyRegs, KeyRegs.ofKey, be32_bytesOfBus, busWord0, busWord1, busWord2, busWord3]

/-! The two forms of the rotate. -/

theorem ror64by8_append (x y : Word) :
    ror64by8 (x ++ y) = (x >>> 8 ||| (y &&& 0xFF) <<< 24) ++ (y >>> 8 ||| (x &&& 0xFF) <<< 24) := by
  apply BitVec.eq_of_getLsbD_eq
  intro i hi
  simp only [ror64by8, BitVec.getLsbD_append, BitVec.getLsbD_or, BitVec.getLsbD_and, BitVec.getLsbD_shiftLeft,
    BitVec.getLsbD_ushiftRight]
  interval_cases i <;> simp

theorem rol64by8_append (x y : Word) :
    rol64by8 (x ++ y) = (x <<< 8 ||| y >>> 24) ++ (y <<< 8 ||| x >>> 24) := by
  apply BitVec.eq_of_getLsbD_eq
  intro i hi
  simp only [rol64by8, BitVec.getLsbD_append, BitVec.getLsbD_or, BitVec.getLsbD_shiftLeft,
    BitVec.getLsbD_ushiftRight]
  interval_cases i <;> simp

/-- The word-by-word rotate of the round step is the 64-bit rotate of the schedule. -/
theorem rotateWords_eq_rotatePairs (k : KeyRegs) (i : BitVec 4) : rotateWords k i = rotatePairs k i := by
  unfold rotateWords rotatePairs
  rw [ror64by8_append, rol64by8_append]
  simp only [BitVec.extractLsb'_append_eq_left, BitVec.extractLsb'_append_eq_right]

/-! What a round of the schedule leaves in the array, and the array after all sixteen. -/

theorem rkRead_scheduleRound (x : KeyRegs × RoundKeys) (i : BitVec 4) (j : BitVec 5) :
    rkRead (scheduleRound x i).2 j =
      if j = rkOdd i then roundKeyOdd x.1 i else if j = rkEven i then roundKeyEven x.1 i else rkRead x.2 j := by
  simp only [scheduleRound]
  split_ifs with ho he
  · rw [ho, rkRead_rkWrite_same]
  · rw [he, rkRead_rkWrite_other _ _ _ _ (rkEven_ne_rkOdd i i).symm, rkRead_rkWrite_same]
  · rw [rkRead_rkWrite_other _ _ _ _ (Ne.symm ho), rkRead_rkWrite_other _ _ _ _ (Ne.symm he)]

theorem scheduleAfter_words (key : Block) (rk0 rk1 : RoundKeys) (n : Nat) :
    (scheduleAfter key rk0 n).1 = (scheduleAfter key rk1 n).1 := by
  induction n with
  | zero => rfl
  | succ n ih => simp only [scheduleAfter, scheduleRound, ih]

/-- The `2n` entries that the first `n` rounds write do not depend on the array begun over. -/
theorem rkRead_scheduleAfter (key : Block) (rk0 rk1 : RoundKeys) (n : Nat) (hn : n ≤ 16) (j : BitVec 5)
    (hj : j.toNat < 2 * n) : rkRead (scheduleAfter key rk0 n).2 j = rkRead (scheduleAfter key rk1 n).2 j := by
  induction n with
  | zero => omega
  | succ n ih =>
    have hi : (BitVec.ofNat 4 n).toNat = n := by simp; omega
    simp only [scheduleAfter, rkRead_scheduleRound, scheduleAfter_words key rk0 rk1 n]
    split_ifs with ho he
    · rfl
    · rfl
    · have hodd : j.toNat ≠ 2 * n + 1 := fun e => ho (BitVec.eq_of_toNat_eq (by rw [rkOdd_toNat, hi, e]))
      have heven : j.toNat ≠ 2 * n := fun e => he (BitVec.eq_of_toNat_eq (by rw [rkEven_toNat, hi, e]))
      exact ih (by omega) (by omega)

/-- Sixteen rounds write the whole array, whatever it held (rules R75, R80). -/
theorem scheduleAfter_sixteen (key : Block) (rk0 : RoundKeys) : (scheduleAfter key rk0 16).2 = keySchedule key :=
  roundKeys_ext _ _ fun j => rkRead_scheduleAfter key rk0 _ 16 le_rfl j j.isLt

end Sys2Proof.Machine
end

section
/-! SUPPORT. What a step makes of the engine, one named case for each kind of step with its guards (rules R8, R15): the
inversion that the rules about every step are read off from. -/

namespace Sys2Proof.Machine

/-! The rounds, field by field (rules R78, R88). -/

section Rounds

variable (s : State)

theorem ksRound_fsm : s.ksRound.fsm = if s.rnd.toNat < 15 then s.fsm else .idle := by
  unfold State.ksRound; split_ifs <;> rfl

theorem ksRound_rnd : s.ksRound.rnd = if s.rnd.toNat < 15 then s.rnd + 1 else 0 := by
  unfold State.ksRound; split_ifs <;> rfl

theorem ksRound_keyValid : s.ksRound.keyValid = if s.rnd.toNat < 15 then s.keyValid else true := by
  unfold State.ksRound; split_ifs <;> rfl

theorem ksRound_keyRegs :
    s.ksRound.keyRegs = if s.rnd.toNat < 15 then (scheduleRound (s.keyRegs, s.rk) s.rnd).1 else ⟨0, 0, 0, 0⟩ := by
  rw [scheduleRound, ← rotateWords_eq_rotatePairs]
  unfold State.ksRound; split_ifs <;> rfl

theorem ksRound_rk : s.ksRound.rk = (scheduleRound (s.keyRegs, s.rk) s.rnd).2 := by
  unfold State.ksRound; split_ifs <;> rfl

theorem ksRound_rsp : s.ksRound.rsp = if s.rnd.toNat < 15 then none else some ⟨.ok, 0, 0⟩ := by
  unfold State.ksRound; split_ifs <;> rfl

@[simp] theorem ksRound_fatalCause : s.ksRound.fatalCause = s.fatalCause := by
  unfold State.ksRound; split_ifs <;> rfl

@[simp] theorem ksRound_halves : s.ksRound.halves = s.halves := by
  unfold State.ksRound; split_ifs <;> rfl

theorem crRound_fsm : s.crRound.fsm = if s.rnd.toNat < 15 then s.fsm else .idle := by
  unfold State.crRound; split_ifs <;> rfl

theorem crRound_rnd : s.crRound.rnd = if s.rnd.toNat < 15 then s.rnd + 1 else 0 := by
  unfold State.crRound; split_ifs <;> rfl

theorem crRound_halves :
    s.crRound.halves =
      if s.rnd.toNat < 15 then (mixLeft s.rk (roundIndex s.dir s.rnd) s.halves).swap else ⟨0, 0, 0, 0⟩ := by
  unfold State.crRound; split_ifs <;> rfl

theorem crRound_rsp :
    s.crRound.rsp =
      if s.rnd.toNat < 15 then none
      else some ⟨.ok, 0, let x := mixLeft s.rk (roundIndex s.dir s.rnd) s.halves; x.l0 ++ x.l1 ++ x.r0 ++ x.r1⟩ := by
  unfold State.crRound; split_ifs <;> rfl

@[simp] theorem crRound_dir : s.crRound.dir = s.dir := by
  unfold State.crRound; split_ifs <;> rfl

@[simp] theorem crRound_keyValid : s.crRound.keyValid = s.keyValid := by
  unfold State.crRound; split_ifs <;> rfl

@[simp] theorem crRound_fatalCause : s.crRound.fatalCause = s.fatalCause := by
  unfold State.crRound; split_ifs <;> rfl

@[simp] theorem crRound_keyRegs : s.crRound.keyRegs = s.keyRegs := by
  unfold State.crRound; split_ifs <;> rfl

@[simp] theorem crRound_rk : s.crRound.rk = s.rk := by
  unfold State.crRound; split_ifs <;> rfl

end Rounds

/-! The accept steps, an equation for each of their cases (rules R76, R86, R118). -/

section AcceptEquations

variable {s : State} {len slen dlen : Len}

theorem exec_keyld_of_unsupported (h : len ∈ s.params.unsupportedKeyLens) :
    exec (.keyld len) s = .next (s.raiseRecoverable .errKeySizeUnsupported len) :=
  if_pos h

theorem exec_keyld_of_wrong_length (h : len ∉ s.params.unsupportedKeyLens) (h16 : len ≠ 16#12) :
    exec (.keyld len) s = .next (s.raiseRecoverable .errKeySize len) :=
  (if_neg h).trans (if_pos h16)

theorem exec_keyld_of_sixteen (h : 16#12 ∉ s.params.unsupportedKeyLens) :
    exec (.keyld 16#12) s = .next s.startSchedule :=
  (if_neg h).trans (if_neg (not_not_intro rfl))

theorem acceptTransform_of_allowed (dir : Dir) (h : TransformAllowed slen dlen s) :
    s.acceptTransform dir slen dlen = s.startTransform dir := by
  obtain ⟨hk, hsl, hdl⟩ := h
  simp [State.acceptTransform, hk, BitVec.not_lt.mpr hsl, BitVec.not_lt.mpr hdl]

/-- Which fatal exception a failed check raises depends on `KEY_VALID` and the lengths alone. -/
theorem acceptTransform_of_not_allowed (dir : Dir) (h : ¬ TransformAllowed slen dlen s) :
    ∃ code info, code.isFatal = true ∧
      ∀ u : State, u.keyValid = s.keyValid → u.acceptTransform dir slen dlen = u.raiseFatal code info := by
  obtain ⟨hk, -⟩ | ⟨hk, hl, -⟩ | ⟨hk, hsl, hl, -⟩ | ⟨hk, hsl, hdl, -⟩ := acceptTransform_cases s dir slen dlen
  · exact ⟨.fatalNoKey, 0, rfl, fun u hu => by simp [State.acceptTransform, hu, hk]⟩
  · exact ⟨.fatalShortInput, slen, rfl, fun u hu => by simp [State.acceptTransform, hu, hk, hl]⟩
  · exact ⟨.fatalShortOutput, dlen, rfl, fun u hu => by simp [State.acceptTransform, hu, hk, hsl, hl]⟩
  · exact absurd ⟨hk, BitVec.not_lt.mp hsl, BitVec.not_lt.mp hdl⟩ h

end AcceptEquations

theorem step_of_reserved {s : State} {why : Reserved} (ha : AcceptsWord s) (hd : decode s.cmd = .reserved why) :
    step s = .next (s.illegalCommand.hostMoves true) := by
  rw [step_of_acceptsWord ha, acceptStep_of_reserved hd, mapNext]

/-! The kinds of step. -/

/-- What one step may make of the engine of `s`, before the host's move on its ports. -/
inductive EngineStep (s : State) : State → Prop where
  | reset (hr : s.rstAsserted = true) : EngineStep s s.resetEvent
  | waitInFatal (hr : s.rstAsserted = false) (hf : s.fsm = .fatal) (hc : s.resetToCome = true) :
      EngineStep s s.noResponse
  | idle (hr : s.rstAsserted = false) (hf : s.fsm = .idle) (hv : s.cmdValid = false) : EngineStep s s.noResponse
  | ksRound (hr : s.rstAsserted = false) (hf : s.fsm = .ks) : EngineStep s s.ksRound
  | crRound (hr : s.rstAsserted = false) (hf : s.fsm = .cr) : EngineStep s s.crRound
  | illegal (ha : AcceptsWord s) {why : Reserved} (hd : decode s.cmd = .reserved why) : EngineStep s s.illegalCommand
  | keyldUnsupported (ha : AcceptsWord s) {len : Len} (hd : decode s.cmd = .command (.keyld len))
      (hl : len ∈ s.params.unsupportedKeyLens) : EngineStep s (s.raiseRecoverable .errKeySizeUnsupported len)
  | keyldWrongLength (ha : AcceptsWord s) {len : Len} (hd : decode s.cmd = .command (.keyld len))
      (hl : len ∉ s.params.unsupportedKeyLens) (hn : len ≠ 16#12) :
      EngineStep s (s.raiseRecoverable .errKeySize len)
  | keyldStarted (ha : AcceptsWord s) (hd : decode s.cmd = .command (.keyld 16#12))
      (hl : 16#12 ∉ s.params.unsupportedKeyLens) : EngineStep s s.startSchedule
  | transformRejected (ha : AcceptsWord s) {dir : Dir} {slen dlen : Len}
      (hd : decode s.cmd = .command (transformInstr dir slen dlen)) (hl : ¬ TransformAllowed slen dlen s)
      {code : RspCode} {info : BitVec 12} (hc : code.isFatal = true) : EngineStep s (s.raiseFatal code info)
  | transformStarted (ha : AcceptsWord s) {dir : Dir} {slen dlen : Len}
      (hd : decode s.cmd = .command (transformInstr dir slen dlen)) (hl : TransformAllowed slen dlen s) :
      EngineStep s (s.startTransform dir)
  | blksz (ha : AcceptsWord s) (hd : decode s.cmd = .command .blksz) : EngineStep s (s.respondOk blockSize 0)
  | clr (ha : AcceptsWord s) (hd : decode s.cmd = .command .clr) :
      EngineStep s (State.respondOk { s with rk := Vector.replicate 32 0, keyValid := false } 0 0)

theorem engineStep_transform {s : State} (ha : AcceptsWord s) {dir : Dir} {slen dlen : Len}
    (hd : decode s.cmd = .command (transformInstr dir slen dlen)) :
    EngineStep s (s.acceptTransform dir slen dlen) := by
  by_cases hl : TransformAllowed slen dlen s
  · rw [acceptTransform_of_allowed dir hl]
    exact .transformStarted ha hd hl
  · obtain ⟨code, info, hc, h⟩ := acceptTransform_of_not_allowed dir hl
    rw [h s rfl]
    exact .transformRejected ha hd hl hc

theorem engineStep_of_exec {s u : State} (ha : AcceptsWord s) {i : Instr} (hd : decode s.cmd = .command i)
    (hu : exec i s = .next u) : EngineStep s u := by
  cases i with
  | keyld len =>
    obtain ⟨hl, h⟩ | ⟨hl, h16, h⟩ | ⟨hl, rfl, h⟩ := execKeyld_cases len s <;> cases h.symm.trans hu
    · exact .keyldUnsupported ha hd hl
    · exact .keyldWrongLength ha hd hl h16
    · exact .keyldStarted ha hd hl
  | enc slen dlen => cases hu; exact engineStep_transform (dir := .encrypt) ha hd
  | dec slen dlen => cases hu; exact engineStep_transform (dir := .decrypt) ha hd
  | blksz => cases hu; exact .blksz ha hd
  | clr => cases hu; exact .clr ha hd

/-- A step that answers a next state is one of these kinds, and then the host's move. -/
theorem engineStep_of_step {s t : State} (h : step s = .next t) :
    ∃ u accepted, EngineStep s u ∧ t = u.hostMoves accepted := by
  obtain ⟨hr, ht⟩ | ⟨hr, ⟨hf, hc, ht⟩ | ⟨hf, ht⟩ | ⟨hf, ht⟩ | ⟨hf, hv, ht⟩ |
    ⟨hf, hv, ⟨i, u, hd, hu, ht⟩ | ⟨why, hd, ht⟩⟩⟩ := step_cases s t h
  · exact ⟨_, _, .reset hr, ht⟩
  · exact ⟨_, _, .waitInFatal hr hf hc, ht⟩
  · exact ⟨_, _, .ksRound hr hf, ht⟩
  · exact ⟨_, _, .crRound hr hf, ht⟩
  · exact ⟨_, _, .idle hr hf hv, ht⟩
  · exact ⟨_, _, engineStep_of_exec ⟨hr, hf, hv⟩ hd hu, ht⟩
  · exact ⟨_, _, .illegal ⟨hr, hf, hv⟩ hd, ht⟩

/-- A step that answers no next state is the fault of rule U8, in `FATAL` with `rst` not asserted. -/
theorem step_next_or_stuck (s : State) :
    (∃ t, step s = .next t) ∨ (s.fsm = .fatal ∧ s.rstAsserted = false ∧ step s = .fault .stuckInFatal) := by
  cases hr : s.rstAsserted with
  | true => exact .inl ⟨_, step_of_rst hr⟩
  | false =>
    cases hf : s.fsm with
    | ks => exact .inl ⟨_, step_of_ks hr hf⟩
    | cr => exact .inl ⟨_, step_of_cr hr hf⟩
    | fatal =>
      cases hc : s.resetToCome with
      | true => exact .inl ⟨_, step_of_fatal_waiting hr hf hc⟩
      | false => exact .inr ⟨rfl, rfl, step_of_fatal_stuck hr hf hc⟩
    | idle =>
      cases hv : s.cmdValid with
      | false => exact .inl ⟨_, step_of_idle hr hf hv⟩
      | true =>
        have ha : AcceptsWord s := ⟨hr, hf, hv⟩
        cases hd : decode s.cmd with
        | command i =>
          obtain ⟨u, hu⟩ := exec_answers_next i s
          exact .inl ⟨_, step_of_accepts ⟨ha, hd⟩ hu⟩
        | reserved why => exact .inl ⟨_, step_of_reserved ha hd⟩

end Sys2Proof.Machine
end

section
/-! SUPPORT. The parts of the invariant (rule R23), each kept by every kind of step. -/

namespace Sys2Proof.Machine

section HostMoves

variable (s : State) (accepted : Bool)

@[simp] theorem restingRegisters_hostMoves : RestingRegisters (s.hostMoves accepted) ↔ RestingRegisters s := by
  simp [RestingRegisters]

@[simp] theorem causeRecorded_hostMoves : CauseRecorded (s.hostMoves accepted) ↔ CauseRecorded s := by
  simp [CauseRecorded]

@[simp] theorem keyFlagFits_hostMoves : KeyFlagFits (s.hostMoves accepted) ↔ KeyFlagFits s := by
  simp [KeyFlagFits]

@[simp] theorem scheduleHeld_hostMoves : ScheduleHeld (s.hostMoves accepted) ↔ ScheduleHeld s := by
  simp [ScheduleHeld]

end HostMoves

variable {s u : State}

/-- In `IDLE` all the working registers are at rest. -/
theorem zero_of_restingRegisters_of_idle (hs : RestingRegisters s) (hf : s.fsm = .idle) :
    s.keyRegs = ⟨0, 0, 0, 0⟩ ∧ s.halves = ⟨0, 0, 0, 0⟩ ∧ s.rnd = 0 := by
  simpa [RestingRegisters, hf] using hs

theorem restingRegisters_of_engineStep (h : EngineStep s u) (hs : RestingRegisters s) : RestingRegisters u := by
  have ⟨hkey, hhalves, _⟩ := hs
  cases h with
  | reset => exact ⟨fun _ => rfl, fun _ => rfl, fun hn => absurd rfl hn⟩
  | waitInFatal | idle | keyldUnsupported | keyldWrongLength | blksz | clr => exact hs
  | ksRound hr hf =>
    have hh := hhalves (by simp [hf])
    by_cases hn : s.rnd.toNat < 15 <;>
      simp [RestingRegisters, ksRound_fsm, ksRound_rnd, ksRound_keyRegs, hn, hf, hh]
  | crRound hr hf =>
    have hk := hkey (by simp [hf])
    by_cases hn : s.rnd.toNat < 15 <;>
      simp [RestingRegisters, crRound_fsm, crRound_rnd, crRound_halves, hn, hf, hk]
  | illegal ha | transformRejected ha =>
    obtain ⟨hk, hh, hn⟩ := zero_of_restingRegisters_of_idle hs ha.2.1
    exact ⟨fun _ => hk, fun _ => hh, fun h => absurd hn h⟩
  | keyldStarted ha =>
    obtain ⟨-, hh, -⟩ := zero_of_restingRegisters_of_idle hs ha.2.1
    exact ⟨fun hn => absurd rfl hn, fun _ => hh, fun hn => absurd rfl hn⟩
  | transformStarted ha =>
    obtain ⟨hk, -, -⟩ := zero_of_restingRegisters_of_idle hs ha.2.1
    exact ⟨fun _ => hk, fun hn => absurd rfl hn, fun hn => absurd rfl hn⟩

theorem bits_ne_zero_of_isFatal {code : RspCode} (h : code.isFatal = true) : code.bits ≠ 0 := by
  revert h; cases code <;> decide

theorem causeRecorded_raiseFatal (s : State) {code : RspCode} (hc : code.isFatal = true) (info : BitVec 12) :
    CauseRecorded (s.raiseFatal code info) :=
  ⟨iff_of_true (bits_ne_zero_of_isFatal hc) rfl, fun _ => ⟨code, hc, rfl⟩⟩

theorem causeRecorded_iff_of_ne_fatal (hf : s.fsm ≠ .fatal) : CauseRecorded s ↔ s.fatalCause = 0 := by
  simp [CauseRecorded, hf]

theorem causeRecorded_of_engineStep (h : EngineStep s u) (hs : CauseRecorded s) : CauseRecorded u := by
  /- Outside `FATAL` the cause is 0, and so it stays in a step that neither writes it nor enters `FATAL`. -/
  have stays (hf : s.fsm ≠ .fatal) (hu : u.fsm ≠ .fatal) (hc : u.fatalCause = s.fatalCause) : CauseRecorded u := by
    rw [causeRecorded_iff_of_ne_fatal hu, hc]
    exact (causeRecorded_iff_of_ne_fatal hf).mp hs
  cases h with
  | reset => exact (causeRecorded_iff_of_ne_fatal (by simp)).mpr rfl
  | waitInFatal | idle | keyldUnsupported | keyldWrongLength | blksz | clr => exact hs
  | ksRound hr hf => exact stays (by simp [hf]) (by rw [ksRound_fsm]; split_ifs <;> simp [hf]) (by simp)
  | crRound hr hf => exact stays (by simp [hf]) (by rw [crRound_fsm]; split_ifs <;> simp [hf]) (by simp)
  | illegal => exact causeRecorded_raiseFatal s rfl 0
  | transformRejected _ _ _ hc => exact causeRecorded_raiseFatal s hc _
  | keyldStarted ha => exact stays (by simp [ha.2.1]) (by simp) rfl
  | transformStarted ha => exact stays (by simp [ha.2.1]) (by simp) rfl

theorem keyFlagFits_of_engineStep (h : EngineStep s u) (hs : KeyFlagFits s) : KeyFlagFits u := by
  have ⟨hks, hcr⟩ := hs
  cases h with
  | reset => simp [KeyFlagFits]
  | waitInFatal | idle | keyldUnsupported | keyldWrongLength | blksz => exact hs
  | ksRound hr hf =>
    have hk := hks hf
    by_cases hn : s.rnd.toNat < 15 <;> simp [KeyFlagFits, ksRound_fsm, ksRound_keyValid, hn, hf, hk]
  | crRound hr hf =>
    have hk := hcr hf
    by_cases hn : s.rnd.toNat < 15 <;> simp [KeyFlagFits, crRound_fsm, hn, hf, hk]
  | illegal | transformRejected => simp [KeyFlagFits]
  | keyldStarted => simp [KeyFlagFits]
  | transformStarted _ _ hl => simp [KeyFlagFits, hl.1]
  | clr ha => simp [KeyFlagFits, ha.2.1]

theorem scheduleHeld_of_keyValid_false (hk : u.keyValid = false) (hf : u.fsm ≠ .ks) : ScheduleHeld u := by
  simp [ScheduleHeld, hk, hf]

/-- Outside a schedule a step that leaves the array and the flag leaves what they hold. -/
theorem scheduleHeld_of_kept (hs : ScheduleHeld s) (hf : u.fsm ≠ .ks) (hk : u.keyValid = s.keyValid)
    (hrk : u.rk = s.rk) : ScheduleHeld u := by
  refine ⟨fun hv => ?_, fun h => absurd h hf⟩
  rw [hrk]
  exact hs.1 (hk ▸ hv)

theorem scheduleAfter_succ_toNat (key : Block) (rk0 : RoundKeys) (n : BitVec 4) :
    scheduleAfter key rk0 (n.toNat + 1) = scheduleRound (scheduleAfter key rk0 n.toNat) n := by
  rw [scheduleAfter, BitVec.ofNat_toNat, BitVec.setWidth_eq]

/-- A round that is not the last has done one more round of the same key's schedule; the last has done all sixteen. -/
theorem scheduleHeld_ksRound (hf : s.fsm = .ks) (hk : s.keyValid = false) (hs : ScheduleHeld s) :
    ScheduleHeld s.ksRound := by
  obtain ⟨key, rk0, hrun⟩ := hs.2 hf
  have hround : scheduleRound (s.keyRegs, s.rk) s.rnd = scheduleAfter key rk0 (s.rnd.toNat + 1) := by
    rw [hrun, scheduleAfter_succ_toNat]
  by_cases hn : s.rnd.toNat < 15
  · have hnext : (s.rnd + 1).toNat = s.rnd.toNat + 1 := by bv_omega
    refine ⟨fun hv => ?_, fun _ => ⟨key, rk0, ?_⟩⟩
    · simp [ksRound_keyValid, hn, hk] at hv
    · simp only [ksRound_keyRegs, ksRound_rk, ksRound_rnd, if_pos hn, hround, hnext]
  · have hlast : s.rnd.toNat + 1 = 16 := by omega
    refine ⟨fun _ => ⟨key, ?_⟩, fun h => ?_⟩
    · rw [ksRound_rk, hround, hlast, scheduleAfter_sixteen]
    · simp [ksRound_fsm, hn] at h

theorem scheduleHeld_startSchedule (s : State) : ScheduleHeld s.startSchedule :=
  ⟨fun h => absurd h (by simp), fun _ => ⟨bytesOfBus s.din, s.rk, by rw [startSchedule_keyRegs]; rfl⟩⟩

theorem scheduleHeld_of_engineStep (h : EngineStep s u) (hfit : KeyFlagFits s) (hs : ScheduleHeld s) :
    ScheduleHeld u := by
  cases h with
  | reset => exact scheduleHeld_of_keyValid_false rfl (by simp)
  | waitInFatal | idle | keyldUnsupported | keyldWrongLength | blksz => exact hs
  | ksRound hr hf => exact scheduleHeld_ksRound hf (hfit.1 hf) hs
  | crRound hr hf =>
    exact scheduleHeld_of_kept hs (by rw [crRound_fsm]; split_ifs <;> simp [hf]) (by simp) (by simp)
  | illegal | transformRejected => exact scheduleHeld_of_kept hs (by simp) rfl rfl
  | keyldStarted => exact scheduleHeld_startSchedule s
  | transformStarted => exact scheduleHeld_of_kept hs (by simp) rfl rfl
  | clr ha => exact scheduleHeld_of_keyValid_false rfl (by simp [State.respondOk, ha.2.1])

end Sys2Proof.Machine
end

section
/-! SUPPORT. Every kind of step against the table of rule R15, and the bits of `STATUS` (rule R17). -/

namespace Sys2Proof.Machine

/-! Transitions. -/

theorem acceptTransition_transform_started {s t : State} {dir : Dir} {slen dlen : Len}
    (hl : TransformAllowed slen dlen s) (hf : t.fsm = .cr) (hn : t.rnd = 0) (hd : t.dir = dir) :
    AcceptTransition (.command (transformInstr dir slen dlen)) s t := by
  cases dir <;> simp [transformInstr, AcceptTransition, hl, hf, hn, hd]

theorem acceptTransition_transform_rejected {s t : State} {dir : Dir} {slen dlen : Len}
    (hl : ¬ TransformAllowed slen dlen s) (hf : t.fsm = .fatal) :
    AcceptTransition (.command (transformInstr dir slen dlen)) s t := by
  cases dir <;> simp [transformInstr, AcceptTransition, hl, hf]

theorem transition_of_accepts {s t : State} (ha : AcceptsWord s) (h : AcceptTransition (decode s.cmd) s t) :
    Transition s t := by
  obtain ⟨hr, hf, hv⟩ := ha
  simpa [Transition, hr, hf, hv] using h

/-- Every kind of step makes a transition of rule R15, or stays in `IDLE` or in `FATAL`. -/
theorem transition_of_engineStep {s u : State} (h : EngineStep s u) (accepted : Bool) :
    Transition s (u.hostMoves accepted) := by
  cases h with
  | reset hr => simp [Transition, hr]
  | waitInFatal hr hf => simp [Transition, hr, hf]
  | idle hr hf hv => simp [Transition, hr, hf, hv]
  | ksRound hr hf =>
    by_cases hn : s.rnd.toNat < 15 <;> simp [Transition, hr, hf, hn, ksRound_fsm, ksRound_rnd]
  | crRound hr hf =>
    by_cases hn : s.rnd.toNat < 15 <;> simp [Transition, hr, hf, hn, crRound_fsm, crRound_rnd]
  | illegal ha hd => exact transition_of_accepts ha (by simp [hd, AcceptTransition])
  | keyldUnsupported ha hd hl => exact transition_of_accepts ha (by simp [hd, AcceptTransition, hl, ha.2.1])
  | keyldWrongLength ha hd _ hn => exact transition_of_accepts ha (by simp [hd, AcceptTransition, hn, ha.2.1])
  | keyldStarted ha hd hl => exact transition_of_accepts ha (by simp [hd, AcceptTransition, hl])
  | transformRejected ha hd hl =>
    exact transition_of_accepts ha (hd ▸ acceptTransition_transform_rejected hl (by simp))
  | transformStarted ha hd hl =>
    exact transition_of_accepts ha (hd ▸ acceptTransition_transform_started hl (by simp) (by simp) (by simp))
  | blksz ha hd => exact transition_of_accepts ha (by simp [hd, AcceptTransition, ha.2.1, State.respondOk])
  | clr ha hd => exact transition_of_accepts ha (by simp [hd, AcceptTransition, ha.2.1, State.respondOk])

/-! `STATUS`. -/

theorem getLsbD_status (s : State) (i : Nat) :
    s.status.getLsbD i =
      if i = 0 then s.busy
      else if i = 1 then s.keyValid
      else if i = 2 then s.fsm == .fatal
      else if i = 3 then false
      else s.fatalCause.getLsbD (i - 4) := by
  change BitVec.getLsbD (w := 4 + 1 + 1 + 1 + 1) (_ ++ _ ++ _ ++ _ ++ _) i = _
  simp only [BitVec.getLsbD_append]
  match i with
  | 0 | 1 | 2 | 3 => simp
  | n + 4 => simp

end Sys2Proof.Machine
end

section
/-! SUPPORT. The engine with other key material, `RK` and `A` to `D` (rule R20): outside a transform every step does the same
to it, up to key material. -/

namespace Sys2Proof.Machine

/-- The state with other round keys and other key-schedule registers. -/
def withKeyMaterial (rk : RoundKeys) (k : KeyRegs) (s : State) : State := State.setKeyRegs { s with rk := rk } k

section

variable (rk : RoundKeys) (k : KeyRegs) (s : State)

theorem refillPort_withKeyMaterial :
    (withKeyMaterial rk k s).refillPort = withKeyMaterial rk k s.refillPort := by
  match hp : s.pending with
  | [] => rw [refillPort_of_nil hp, refillPort_of_nil (s := withKeyMaterial rk k s) hp]; rfl
  | none :: _ => rw [refillPort_of_none hp, refillPort_of_none (s := withKeyMaterial rk k s) hp]; rfl
  | some _ :: _ => rw [refillPort_of_some hp, refillPort_of_some (s := withKeyMaterial rk k s) hp]; rfl

theorem hostMoves_withKeyMaterial (accepted : Bool) :
    (withKeyMaterial rk k s).hostMoves accepted = withKeyMaterial rk k (s.hostMoves accepted) := by
  have hport := refillPort_withKeyMaterial rk k { s with rst := s.rst.tail }
  unfold State.hostMoves
  rw [apply_ite (withKeyMaterial rk k), ← hport]
  rfl

theorem mapNext_hostMoves_withKeyMaterial (accepted : Bool) (o : Host.Outcome State Fault Refusal) :
    mapNext (fun t => t.hostMoves accepted) (mapNext (withKeyMaterial rk k) o) =
      mapNext (withKeyMaterial rk k) (mapNext (fun t => t.hostMoves accepted) o) := by
  cases o <;> simp [mapNext, hostMoves_withKeyMaterial]

theorem acceptTransform_withKeyMaterial (dir : Dir) (slen dlen : Len) :
    (withKeyMaterial rk k s).acceptTransform dir slen dlen =
      withKeyMaterial rk k (s.acceptTransform dir slen dlen) := by
  by_cases hl : TransformAllowed slen dlen s
  · rw [acceptTransform_of_allowed dir hl, acceptTransform_of_allowed (s := withKeyMaterial rk k s) dir hl]
    rfl
  · obtain ⟨code, info, -, h⟩ := acceptTransform_of_not_allowed dir hl
    rw [h s rfl, h (withKeyMaterial rk k s) rfl]
    rfl

/-- KEYLD past its checks and CLR overwrite key material; no other accept step reads or writes it. -/
theorem exec_withKeyMaterial (i : Instr) :
    ∃ rk' k', exec i (withKeyMaterial rk k s) = mapNext (withKeyMaterial rk' k') (exec i s) := by
  cases i with
  | keyld len =>
    by_cases hl : len ∈ s.params.unsupportedKeyLens
    · refine ⟨rk, k, ?_⟩
      rw [exec_keyld_of_unsupported hl, exec_keyld_of_unsupported (s := withKeyMaterial rk k s) hl]
      rfl
    · by_cases h16 : len = 16#12
      · subst h16
        refine ⟨rk, s.startSchedule.keyRegs, ?_⟩
        rw [exec_keyld_of_sixteen hl, exec_keyld_of_sixteen (s := withKeyMaterial rk k s) hl]
        rfl
      · refine ⟨rk, k, ?_⟩
        rw [exec_keyld_of_wrong_length hl h16, exec_keyld_of_wrong_length (s := withKeyMaterial rk k s) hl h16]
        rfl
  | enc slen dlen => exact ⟨rk, k, congrArg _ (acceptTransform_withKeyMaterial rk k s .encrypt slen dlen)⟩
  | dec slen dlen => exact ⟨rk, k, congrArg _ (acceptTransform_withKeyMaterial rk k s .decrypt slen dlen)⟩
  | blksz => exact ⟨rk, k, rfl⟩
  | clr => exact ⟨Vector.replicate 32 0, k, rfl⟩

theorem acceptStep_withKeyMaterial :
    ∃ rk' k', acceptStep (withKeyMaterial rk k s) = mapNext (withKeyMaterial rk' k') (acceptStep s) := by
  cases hd : decode s.cmd with
  | command i =>
    rw [acceptStep_of_command hd, acceptStep_of_command (s := withKeyMaterial rk k s) hd]
    exact exec_withKeyMaterial rk k s i
  | reserved why =>
    rw [acceptStep_of_reserved hd, acceptStep_of_reserved (s := withKeyMaterial rk k s) hd]
    exact ⟨rk, k, rfl⟩

/-- A key-schedule round answers and counts alike, whatever the key material. -/
theorem ksRound_withKeyMaterial :
    ∃ rk' k', (withKeyMaterial rk k s).ksRound = withKeyMaterial rk' k' s.ksRound := by
  refine ⟨(withKeyMaterial rk k s).ksRound.rk, (withKeyMaterial rk k s).ksRound.keyRegs, ?_⟩
  by_cases hn : s.rnd.toNat < 15
  · rw [ksRound_of_lt s hn, ksRound_of_lt (withKeyMaterial rk k s) hn]; rfl
  · rw [ksRound_of_last s hn, ksRound_of_last (withKeyMaterial rk k s) hn]; rfl

theorem step_withKeyMaterial (hcr : s.fsm ≠ .cr) :
    ∃ rk' k', step (withKeyMaterial rk k s) = mapNext (withKeyMaterial rk' k') (step s) := by
  let u := withKeyMaterial rk k s
  cases hr : s.rstAsserted with
  | true =>
    refine ⟨s.resetEvent.rk, s.resetEvent.keyRegs, ?_⟩
    rw [step_of_rst hr, step_of_rst (s := u) hr, mapNext, ← hostMoves_withKeyMaterial]
    rfl
  | false =>
    cases hf : s.fsm with
    | cr => exact absurd hf hcr
    | ks =>
      obtain ⟨rk', k', h⟩ := ksRound_withKeyMaterial rk k s
      refine ⟨rk', k', ?_⟩
      rw [step_of_ks hr hf, step_of_ks (s := u) hr hf, h, mapNext, hostMoves_withKeyMaterial]
    | fatal =>
      refine ⟨rk, k, ?_⟩
      cases hc : s.resetToCome with
      | true =>
        rw [step_of_fatal_waiting hr hf hc, step_of_fatal_waiting (s := u) hr hf hc, mapNext,
          ← hostMoves_withKeyMaterial]
        rfl
      | false => rw [step_of_fatal_stuck hr hf hc, step_of_fatal_stuck (s := u) hr hf hc, mapNext]
    | idle =>
      cases hv : s.cmdValid with
      | false =>
        refine ⟨rk, k, ?_⟩
        rw [step_of_idle hr hf hv, step_of_idle (s := u) hr hf hv, mapNext, ← hostMoves_withKeyMaterial]
        rfl
      | true =>
        have ha : AcceptsWord s := ⟨hr, hf, hv⟩
        obtain ⟨rk', k', h⟩ := acceptStep_withKeyMaterial rk k s
        refine ⟨rk', k', ?_⟩
        rw [step_of_acceptsWord ha, step_of_acceptsWord (s := u) ha, h, mapNext_hostMoves_withKeyMaterial]

end

end Sys2Proof.Machine
end

section
/-! SUPPORT. Two runs of one command (rules R21, R95): states that agree in what the running activity reads take the same
rounds, and give the same result. -/

namespace Sys2Proof.Machine

/-- The states agree in what an accept step reads. -/
structure SameInputs (s u : State) : Prop where
  fsm : s.fsm = u.fsm
  keyValid : s.keyValid = u.keyValid
  rk : s.rk = u.rk
  din : s.din = u.din
  params : s.params = u.params

/-- Both states are in the same round of the same activity, over the same registers and round keys. -/
structure SameActivity (s u : State) : Prop where
  rnd : s.rnd = u.rnd
  keyValid : s.keyValid = u.keyValid
  rk : s.rk = u.rk
  regs : (s.fsm = .ks ∧ u.fsm = .ks ∧ s.keyRegs = u.keyRegs) ∨
    (s.fsm = .cr ∧ u.fsm = .cr ∧ s.dir = u.dir ∧ s.halves = u.halves)

/-- The states agree in the response and in what a command leaves for the next (rule R95). -/
def SameResult (t v : State) : Prop :=
  t.rsp = v.rsp ∧ t.keyValid = v.keyValid ∧ t.rk = v.rk ∧ t.fsm = v.fsm

section

variable {s u t v : State}

theorem SameActivity.hostMoves (h : SameActivity t v) (accepted : Bool) :
    SameActivity (t.hostMoves accepted) (v.hostMoves accepted) :=
  ⟨by simpa using h.rnd, by simpa using h.keyValid, by simpa using h.rk, by simpa using h.regs⟩

theorem SameResult.hostMoves (h : SameResult t v) (accepted : Bool) :
    SameResult (t.hostMoves accepted) (v.hostMoves accepted) := by
  simpa [SameResult] using h

/-! The accept step. -/

/-- After the accept steps of a command of so many steps: the same result at once, or the same sixteen rounds to come. -/
def AcceptedAlike (steps : Nat) (t v : State) : Prop :=
  (steps = 1 ∧ SameResult t v) ∨ (steps = 17 ∧ SameActivity t v ∧ t.rnd = 0)

theorem acceptTransform_alike (h : SameInputs s u) (dir : Dir) (slen dlen : Len) :
    AcceptedAlike (stepsOf (transformInstr dir slen dlen) s) (s.acceptTransform dir slen dlen)
      (u.acceptTransform dir slen dlen) := by
  have hsteps : stepsOf (transformInstr dir slen dlen) s = if TransformAllowed slen dlen s then 17 else 1 := by
    cases dir <;> rfl
  by_cases hl : TransformAllowed slen dlen s
  · have hl' : TransformAllowed slen dlen u := by rwa [TransformAllowed, ← h.keyValid]
    rw [hsteps, if_pos hl, acceptTransform_of_allowed dir hl, acceptTransform_of_allowed dir hl']
    have hhalves : (s.startTransform dir).halves = (u.startTransform dir).halves := by simp [State.halves, h.din]
    exact .inr ⟨rfl, ⟨rfl, h.keyValid, h.rk, .inr ⟨rfl, rfl, rfl, hhalves⟩⟩, rfl⟩
  · obtain ⟨code, info, -, hraise⟩ := acceptTransform_of_not_allowed dir hl
    rw [hsteps, if_neg hl, hraise s rfl, hraise u h.keyValid.symm]
    exact .inl ⟨rfl, rfl, h.keyValid, h.rk, rfl⟩

theorem exec_keyld_alike (h : SameInputs s u) (len : Len) :
    ∃ t v, exec (.keyld len) s = .next t ∧ exec (.keyld len) u = .next v ∧
      AcceptedAlike (stepsOf (.keyld len) s) t v := by
  by_cases hl : len ∈ s.params.unsupportedKeyLens
  · exact ⟨_, _, exec_keyld_of_unsupported hl, exec_keyld_of_unsupported (h.params ▸ hl),
      .inl ⟨if_neg fun hc => hc.2 hl, rfl, h.keyValid, h.rk, h.fsm⟩⟩
  · by_cases h16 : len = 16#12
    · subst h16
      have hkey : s.startSchedule.keyRegs = u.startSchedule.keyRegs := by
        rw [startSchedule_keyRegs, startSchedule_keyRegs, h.din]
      exact ⟨_, _, exec_keyld_of_sixteen hl, exec_keyld_of_sixteen (h.params ▸ hl),
        .inr ⟨if_pos ⟨rfl, hl⟩, ⟨rfl, rfl, h.rk, .inl ⟨rfl, rfl, hkey⟩⟩, rfl⟩⟩
    · exact ⟨_, _, exec_keyld_of_wrong_length hl h16, exec_keyld_of_wrong_length (h.params ▸ hl) h16,
        .inl ⟨if_neg fun hc => h16 hc.1, rfl, h.keyValid, h.rk, h.fsm⟩⟩

theorem exec_alike (h : SameInputs s u) (i : Instr) :
    ∃ t v, exec i s = .next t ∧ exec i u = .next v ∧ AcceptedAlike (stepsOf i s) t v := by
  cases i with
  | keyld len => exact exec_keyld_alike h len
  | enc slen dlen => exact ⟨_, _, rfl, rfl, acceptTransform_alike h .encrypt slen dlen⟩
  | dec slen dlen => exact ⟨_, _, rfl, rfl, acceptTransform_alike h .decrypt slen dlen⟩
  | blksz => exact ⟨_, _, rfl, rfl, .inl ⟨rfl, rfl, h.keyValid, h.rk, h.fsm⟩⟩
  | clr => exact ⟨_, _, rfl, rfl, .inl ⟨rfl, rfl, rfl, rfl, h.fsm⟩⟩

/-- Two accept steps of the same word. -/
theorem step_accept_alike (h : SameInputs s u) (hs : AcceptsWord s) (hu : AcceptsWord u) (hcmd : s.cmd = u.cmd) :
    ∃ t v, step s = .next (t.hostMoves true) ∧ step u = .next (v.hostMoves true) ∧ t.rst = s.rst ∧ v.rst = u.rst ∧
      AcceptedAlike (stepsOfWord s.cmd s) t v := by
  cases hd : decode s.cmd with
  | command i =>
    obtain ⟨t, v, ht, hv, hsame⟩ := exec_alike h i
    refine ⟨t, v, step_of_accepts ⟨hs, hd⟩ ht, step_of_accepts ⟨hu, hcmd ▸ hd⟩ hv,
      rst_of_hostSide (hostSide_of_carried (carried_of_exec ht)),
      rst_of_hostSide (hostSide_of_carried (carried_of_exec hv)), ?_⟩
    simpa [stepsOfWord, hd] using hsame
  | reserved why =>
    refine ⟨_, _, step_of_reserved hs hd, step_of_reserved hu (hcmd ▸ hd), rfl, rfl,
      .inl ⟨?_, rfl, h.keyValid, h.rk, rfl⟩⟩
    simp [stepsOfWord, hd]

/-! The rounds. -/

theorem ksRound_alike (h : SameActivity s u) (hs : s.fsm = .ks) (hu : u.fsm = .ks) (hregs : s.keyRegs = u.keyRegs) :
    if s.rnd.toNat < 15 then SameActivity s.ksRound u.ksRound else SameResult s.ksRound u.ksRound := by
  obtain ⟨hrnd, hkv, hrk, -⟩ := h
  have hrk' : s.ksRound.rk = u.ksRound.rk := by rw [ksRound_rk, ksRound_rk, hregs, hrk, hrnd]
  split_ifs with hn
  · have hn' : u.rnd.toNat < 15 := hrnd ▸ hn
    exact ⟨by simp only [ksRound_rnd, hrnd], by simp only [ksRound_keyValid, hrnd, hkv], hrk',
      .inl (by simp only [ksRound_fsm, ksRound_keyRegs, hs, hu, hregs, hrk, hrnd, if_pos hn', and_self])⟩
  · have hn' : ¬ u.rnd.toNat < 15 := hrnd ▸ hn
    simp only [SameResult, ksRound_rsp, ksRound_keyValid, ksRound_fsm, hrk', hrnd, if_neg hn', and_self]

theorem crRound_alike (h : SameActivity s u) (hs : s.fsm = .cr) (hu : u.fsm = .cr) (hdir : s.dir = u.dir)
    (hhalves : s.halves = u.halves) :
    if s.rnd.toNat < 15 then SameActivity s.crRound u.crRound else SameResult s.crRound u.crRound := by
  obtain ⟨hrnd, hkv, hrk, -⟩ := h
  split_ifs with hn
  · have hn' : u.rnd.toNat < 15 := hrnd ▸ hn
    exact ⟨by simp only [crRound_rnd, hrnd], by simp only [crRound_keyValid, hkv], by simp only [crRound_rk, hrk],
      .inr (by
        simp only [crRound_fsm, crRound_dir, crRound_halves, hs, hu, hdir, hhalves, hrk, hrnd, if_pos hn', and_self])⟩
  · have hn' : ¬ u.rnd.toNat < 15 := hrnd ▸ hn
    simp only [SameResult, crRound_rsp, crRound_keyValid, crRound_fsm, crRound_rk, hkv, hrk, hdir, hhalves, hrnd,
      if_neg hn', and_self]

/-- One round step of both: on to the next round alike, or after the sixteenth the same result. -/
theorem step_round_alike (h : SameActivity s u) (hrs : s.rstAsserted = false) (hru : u.rstAsserted = false) :
    ∃ t v, step s = .next t ∧ step u = .next v ∧ t.rst = s.rst.tail ∧ v.rst = u.rst.tail ∧
      if s.rnd.toNat < 15 then SameActivity t v ∧ t.rnd = s.rnd + 1 else SameResult t v := by
  obtain ⟨hs, hu, hregs⟩ | ⟨hs, hu, hdir, hhalves⟩ := h.regs
  · have hround := ksRound_alike h hs hu hregs
    refine ⟨_, _, step_of_ks hrs hs, step_of_ks hru hu, ?_, ?_, ?_⟩
    · simp [rst_of_hostSide (hostSide_of_carried (carried_ksRound s))]
    · simp [rst_of_hostSide (hostSide_of_carried (carried_ksRound u))]
    · split_ifs at hround ⊢ with hn
      · exact ⟨hround.hostMoves false, by simp [ksRound_rnd, hn]⟩
      · exact hround.hostMoves false
  · have hround := crRound_alike h hs hu hdir hhalves
    refine ⟨_, _, step_of_cr hrs hs, step_of_cr hru hu, ?_, ?_, ?_⟩
    · simp [rst_of_hostSide (hostSide_of_carried (carried_crRound s))]
    · simp [rst_of_hostSide (hostSide_of_carried (carried_crRound u))]
    · split_ifs at hround ⊢ with hn
      · exact ⟨hround.hostMoves false, by simp [crRound_rnd, hn]⟩
      · exact hround.hostMoves false

theorem rstAsserted_of_noResetFor {n : Nat} (h : NoResetFor (n + 1) s) : s.rstAsserted = false := by
  simpa [State.rstAsserted, List.headD_eq_head?_getD, List.getD_eq_getElem?_getD, List.head?_eq_getElem?]
    using h 0 n.succ_pos

theorem noResetFor_of_tail {n : Nat} (h : NoResetFor (n + 1) s) (ht : t.rst = s.rst.tail) : NoResetFor n t := by
  intro k hk
  rw [ht, List.getD_eq_getElem?_getD, List.getElem?_tail, ← List.getD_eq_getElem?_getD]
  exact h (k + 1) (Nat.succ_lt_succ hk)

/-- The rounds left of both activities, to the same result. -/
theorem run_rounds_alike (n : Nat) (h : SameActivity s u) (hn : s.rnd.toNat + n = 15) (hrs : NoResetFor (n + 1) s)
    (hru : NoResetFor (n + 1) u) :
    ∃ t v, Sys2Proof.core.run (n + 1) s = .next t ∧ Sys2Proof.core.run (n + 1) u = .next v ∧ SameResult t v := by
  induction n generalizing s u with
  | zero =>
    obtain ⟨t, v, ht, hv, -, -, hsame⟩ :=
      step_round_alike h (rstAsserted_of_noResetFor hrs) (rstAsserted_of_noResetFor hru)
    rw [if_neg (by omega)] at hsame
    exact ⟨t, v, run_succ 0 s t ht, run_succ 0 u v hv, hsame⟩
  | succ n ih =>
    obtain ⟨t, v, ht, hv, htr, hvr, hsame⟩ :=
      step_round_alike h (rstAsserted_of_noResetFor hrs) (rstAsserted_of_noResetFor hru)
    rw [if_pos (by omega)] at hsame
    obtain ⟨hact, hrnd⟩ := hsame
    have hleft : t.rnd.toNat + n = 15 := by rw [hrnd]; bv_omega
    rw [run_succ _ s t ht, run_succ _ u v hv]
    exact ih hact hleft (noResetFor_of_tail hrs htr) (noResetFor_of_tail hru hvr)

end

end Sys2Proof.Machine
end

section
/-! PROOFS. The statements about the state (10_state.md): the invariant and the state after reset, the sequencer, what writes
the round keys and the key flag, and what an output depends on. -/

namespace Sys2Proof

open Machine

/-- Settles O48: each of the three predicates is kept by every kind of step. -/
theorem stepKeepsSequencerInvariant : Obligations.StepKeepsSequencerInvariant := by
  rintro s t ⟨hrest, hcause, hfit⟩ h
  obtain ⟨u, accepted, hu, rfl⟩ := engineStep_of_step h
  simp [restingRegisters_of_engineStep hu hrest, causeRecorded_of_engineStep hu hcause,
    keyFlagFits_of_engineStep hu hfit]

/-- Settles O49: a round of KEYLD extends the schedule held, the sixteenth completes it, and no other step that leaves the
key valid writes the array. -/
theorem stepKeepsInvariant : Obligations.StepKeepsInvariant := by
  rintro s t ⟨hrest, hcause, hfit, hheld⟩ h
  obtain ⟨hrest', hcause', hfit'⟩ := stepKeepsSequencerInvariant s t ⟨hrest, hcause, hfit⟩ h
  obtain ⟨u, accepted, hu, rfl⟩ := engineStep_of_step h
  exact ⟨hrest', hcause', hfit', (scheduleHeld_hostMoves u accepted).mpr (scheduleHeld_of_engineStep hu hfit hheld)⟩

/-- Settles O32: the kinds of step, one by one, against the table. -/
theorem sequencerTransitions : Obligations.SequencerTransitions := by
  refine ⟨⟨rfl, rfl, rfl, rfl⟩, fun s t h => ?_⟩
  obtain ⟨u, accepted, hu, rfl⟩ := engineStep_of_step h
  exact transition_of_engineStep hu accepted

/-- Settles O34: the two equations of the step in `FATAL`; the host's move leaves the engine. -/
theorem fatalIsLeftByResetAlone : Obligations.FatalIsLeftByResetAlone := by
  intro s hf hr
  exact ⟨fun hc => ⟨_, step_of_fatal_waiting hr hf hc, engine_hostMoves s.noResponse false⟩, step_of_fatal_stuck hr hf⟩

/-- Settles O43: no other kind of step has the array among its writes. -/
theorem roundKeyWriters : Obligations.RoundKeyWriters := by
  intro s t h hrk
  obtain ⟨u, accepted, hu, rfl⟩ := engineStep_of_step h
  rw [hostMoves_rk] at hrk
  cases hu with
  | reset hr => exact .inl hr
  | ksRound hr hf => exact .inr (.inl hf)
  | clr ha hd => exact .inr (.inr ⟨ha, hd⟩)
  | crRound => exact absurd (crRound_rk s) hrk
  | waitInFatal | idle | illegal | keyldUnsupported | keyldWrongLength | keyldStarted | transformRejected
  | transformStarted | blksz =>
    exact absurd rfl hrk

/-- Settles O44: the sixteenth key-schedule round alone sets the flag; reset, CLR and the accept step of KEYLD clear it. -/
theorem keyValidWriters : Obligations.KeyValidWriters := by
  intro s t h hkv
  obtain ⟨u, accepted, hu, rfl⟩ := engineStep_of_step h
  simp only [hostMoves_keyValid, hostMoves_fsm] at hkv ⊢
  cases hu with
  | reset hr => exact ⟨fun h => absurd h (by simp), fun _ => .inl hr⟩
  | ksRound hr hf =>
    by_cases hn : s.rnd.toNat < 15
    · exact absurd (by simp [ksRound_keyValid, hn]) hkv
    · have hlast : s.rnd = 15 := by bv_omega
      exact ⟨fun _ => ⟨hr, hf, hlast, by simp [ksRound_fsm, hn]⟩, fun h => by simp [ksRound_keyValid, hn] at h⟩
  | keyldStarted ha hd => exact ⟨fun h => absurd h (by simp), fun _ => .inr (.inr ⟨⟨ha, hd⟩, rfl⟩)⟩
  | clr ha hd => exact ⟨fun h => absurd h (by simp [State.respondOk]), fun _ => .inr (.inl ⟨ha, hd⟩)⟩
  | crRound => exact absurd (crRound_keyValid s) hkv
  | waitInFatal | idle | illegal | keyldUnsupported | keyldWrongLength | transformRejected | transformStarted
  | blksz =>
    exact absurd rfl hkv

/-- Settles O45: the other state's step answers the same next state with other key material, which no output reads. -/
theorem keyMaterialStaysInside : Obligations.KeyMaterialStaysInside := by
  rintro s u rk k hcr rfl
  obtain ⟨rk', k', hu⟩ := step_withKeyMaterial rk k s hcr
  obtain ⟨t, ht⟩ | ⟨-, -, hstuck⟩ := step_next_or_stuck s
  · rw [ht] at hu
    exact .inr ⟨t, withKeyMaterial rk' k' t, ht, hu, rfl, rfl, rfl⟩
  · rw [hstuck] at hu
    exact .inl ⟨hstuck, hu⟩

/-- Settles O54: after the accept step the two runs have the result or are in the same activity, and then take its sixteen
rounds alike. -/
theorem resultFromVisibleInputs : Obligations.ResultFromVisibleInputs := by
  intro s u hs hu hrs hru hkv hrk hcmd hdin hparams
  have hin : SameInputs s u := ⟨hs.2.1.trans hu.2.1.symm, hkv, hrk, hdin, hparams⟩
  obtain ⟨t, v, ht, hv, htr, hvr, ⟨hsteps, hsame⟩ | ⟨hsteps, hact, hrnd⟩⟩ := step_accept_alike hin hs hu hcmd
  · rw [hsteps]
    exact ⟨_, _, run_succ 0 s _ ht, run_succ 0 u _ hv, hsame.hostMoves true⟩
  · rw [hsteps, run_succ 16 s _ ht, run_succ 16 u _ hv]
    exact run_rounds_alike 15 (hact.hostMoves true) (by simp [hrnd]) (noResetFor_of_tail hrs (by simp [htr]))
      (noResetFor_of_tail hru (by simp [hvr]))

/-- Settles O20: the values are those `State.reset` is defined with. -/
theorem resetStateIsIdle : Obligations.ResetStateIsIdle :=
  ⟨⟨rfl, rfl, rfl, rfl, rfl, rfl, rfl⟩, rfl, rfl, rfl⟩

/-- Settles O47: at reset the registers and the cause are 0, and no key is valid. -/
theorem resetMeetsInvariant : Obligations.ResetMeetsInvariant :=
  ⟨⟨fun _ => rfl, fun _ => rfl, fun h => absurd rfl h⟩,
    (causeRecorded_iff_of_ne_fatal (s := State.reset) (by decide)).mpr rfl,
    ⟨fun h => absurd h (by decide), fun h => absurd h (by decide)⟩,
    scheduleHeld_of_keyValid_false rfl (by decide)⟩

/-- Settles O41: bit by bit, as `STATUS` is put together. -/
theorem statusVectorBits : Obligations.StatusVectorBits := by
  intro s
  have hcause : s.status.extractLsb' 4 4 = s.fatalCause := by
    ext i hi
    rw [BitVec.getElem_extractLsb', getLsbD_status, if_neg (by omega), if_neg (by omega), if_neg (by omega),
      if_neg (by omega)]
    simp [BitVec.getLsbD_eq_getElem hi]
  simp only [getLsbD_status]
  simp [State.busy, hcause]

end Sys2Proof
end

section
/-! SUPPORT. The bytes on the bus (rules R42, R44), the rotate of the round constants (rule R41), and a quick check that a byte
table hits every byte (rules R33, R34). -/

namespace Sys2Proof.Machine

/-! Bytes of the bus. -/

theorem busOfBytes_bytesOfBus (x : Bus) : busOfBytes (bytesOfBus x) = x := by
  simp only [busOfBytes, getElem_bytesOfBus, busByte]
  simp only [BitVec.extractLsb'_append_extractLsb'_eq_extractLsb', -Nat.reduceAdd]
  exact BitVec.extractLsb'_eq_self

theorem busByte_busOfBytes (b : Block) (k : Nat) (hk : k < 16) : busByte (busOfBytes b) k = b[k] := by
  -- The width as a sum of the parts, the form the library's append lemmas match.
  change BitVec.extractLsb' (n := 8 + 8 + 8 + 8 + 8 + 8 + 8 + 8 + 8 + 8 + 8 + 8 + 8 + 8 + 8 + 8) _ _ (_ ++ _) = _
  interval_cases k <;>
    simp [-Nat.reduceAdd, BitVec.extractLsb'_append_eq_of_le, BitVec.extractLsb'_append_eq_of_add_le,
      BitVec.extractLsb'_eq_self]

theorem bytesOfBus_busOfBytes (b : Block) : bytesOfBus (busOfBytes b) = b := by
  ext k hk
  rw [getElem_bytesOfBus, busByte_busOfBytes b k hk]

theorem busByte_append (w0 w1 w2 w3 : Word) (k : Nat) (hk : k < 16) :
    busByte (w0 ++ w1 ++ w2 ++ w3) k = lane (#v[w0, w1, w2, w3][k / 4]) (3 - k % 4) := by
  -- As above, the width as a sum of the parts.
  change BitVec.extractLsb' (n := 32 + 32 + 32 + 32) _ _ (_ ++ _) = _
  interval_cases k <;>
    simp [-Nat.reduceAdd, lane, BitVec.extractLsb'_append_eq_of_le, BitVec.extractLsb'_append_eq_of_add_le]

/-- The bytes of four words are the bytes on the bus that carries the words side by side. -/
theorem bytesOfBus_append (w0 w1 w2 w3 : Word) : bytesOfBus (w0 ++ w1 ++ w2 ++ w3) = bytesOfWords w0 w1 w2 w3 := by
  simp [bytesOfBus, bytesOfWords, busByte_append]

/-! The round constants. -/

theorem rol32_eq_rotateLeft (v : Word) (i : Nat) (hi : i < 32) : rol32 v i = v.rotateLeft i := by
  rw [rol32, BitVec.rotateLeft_def, Nat.mod_eq_of_lt hi]
  split_ifs with h0
  · rw [h0, BitVec.shiftLeft_zero, BitVec.ushiftRight_eq_zero le_rfl, BitVec.or_zero]
  · rfl

/-! The byte tables. -/

/-- The set of the bytes on a list as one number, bit `y` for byte `y`: the kernel builds it in one pass over the list. -/
def byteSet (l : List Byte) : Nat := l.foldr (fun y m => 2 ^ y.toNat ||| m) 0

theorem testBit_byteSet (l : List Byte) (y : Byte) : (byteSet l).testBit y.toNat = decide (y ∈ l) := by
  induction l with
  | nil => simp [byteSet]
  | cons x l ih =>
    rw [byteSet, List.foldr_cons, Nat.testBit_or, Nat.testBit_two_pow, ← byteSet, ih]
    simp [BitVec.toNat_inj, eq_comm]

/-- A byte table whose 256 entries fill the set of all bytes lists no byte twice. -/
theorem injective_of_byteSet {f : Byte → Byte}
    (h : byteSet ((List.range 256).map fun x => f (BitVec.ofNat 8 x)) = 2 ^ 256 - 1) : Function.Injective f := by
  apply Finite.injective_iff_surjective.mpr
  intro y
  have hy := testBit_byteSet ((List.range 256).map fun x => f (BitVec.ofNat 8 x)) y
  rw [h, Nat.testBit_two_pow_sub_one, decide_eq_true y.isLt] at hy
  obtain ⟨x, -, hx⟩ := List.mem_map.mp (of_decide_eq_true hy.symm)
  exact ⟨_, hx⟩

end Sys2Proof.Machine
end

section
/-! PROOFS. The statements about the tables and the operand forms (20_memory.md): byte order on the bus, the listings, the
round constants, and the S-boxes. -/

namespace Sys2Proof

open Machine

/-- Settles O15: a word of the bus is 32 of its bits in a row, and the bytes of four words are those of the bus they make. -/
theorem busCarriesBigEndianWords : Obligations.BusCarriesBigEndianWords := by
  refine ⟨fun x => ⟨?_, ?_, ?_, ?_, busOfBytes_bytesOfBus x⟩, bytesOfBus_busOfBytes, fun w0 w1 w2 w3 => ?_⟩
  · exact (be32_bytesOfBus x 0 (by decide)).symm
  · exact (be32_bytesOfBus x 4 (by decide)).symm
  · exact (be32_bytesOfBus x 8 (by decide)).symm
  · exact (be32_bytesOfBus x 12 (by decide)).symm
  · rw [← bytesOfBus_append, busOfBytes_bytesOfBus]

/-- Settles O8: each listing is compared with its table, entry by entry. -/
theorem substitutionListingsAgree : Obligations.SubstitutionListingsAgree :=
  ⟨by decide +kernel, by decide +kernel, by decide +kernel, by decide +kernel⟩

/-- Settles O9: `rol32` is the library's rotate, and the sixteen listed values are compared. -/
theorem roundConstantsRotate : Obligations.RoundConstantsRotate :=
  ⟨fun i => rol32_eq_rotateLeft _ _ (by omega), by decide⟩

/-- Settles O12: the entries of each S-box fill the set of all bytes. -/
theorem sBoxesArePermutations : Obligations.SBoxesArePermutations :=
  ⟨injective_of_byteSet (f := s1) (by decide +kernel), injective_of_byteSet (f := s2) (by decide +kernel)⟩

end Sys2Proof
end

section
/-! SUPPORT. A command word is its four fields (rule R54): equality, decoding and the rows of the opcode map, field by
field. -/

namespace Sys2Proof

/-! The fields. -/

theorem eq_append_fields (w : Word) : w = fieldOp w ++ fieldRsv w ++ fieldLenB w ++ fieldLenA w := by
  simp only [fieldOp, fieldRsv, fieldLenB, fieldLenA]
  rw [BitVec.extractLsb'_append_extractLsb'_eq_extractLsb' (by decide),
    BitVec.extractLsb'_append_extractLsb'_eq_extractLsb' (by decide),
    BitVec.extractLsb'_append_extractLsb'_eq_extractLsb' (by decide)]
  exact BitVec.extractLsb'_eq_self.symm

theorem packWord_eq_iff (op : BitVec 4) (b a : Len) (w : Word) :
    packWord op b a = w ↔ fieldOp w = op ∧ fieldRsv w = 0#4 ∧ fieldLenB w = b ∧ fieldLenA w = a := by
  constructor
  · rintro rfl
    exact ⟨fieldOp_packWord op b a, fieldRsv_packWord op b a, fieldLenB_packWord op b a, fieldLenA_packWord op b a⟩
  · rintro ⟨rfl, hrsv, rfl, rfl⟩
    rw [packWord, ← hrsv, ← eq_append_fields]

theorem lenB_append_lenA_eq_zero_iff (b a : Len) : b ++ a = 0#24 ↔ b = 0#12 ∧ a = 0#12 := by
  simp only [← BitVec.toNat_inj, BitVec.toNat_append, Nat.shiftLeft_eq]
  simp

/-- The decoder's test of BLKSZ and CLR is on both length fields. -/
theorem low_bits_eq_zero_iff (w : Word) : w.extractLsb' 0 24 = 0#24 ↔ fieldLenB w = 0#12 ∧ fieldLenA w = 0#12 := by
  have happend : fieldLenB w ++ fieldLenA w = w.extractLsb' 0 24 :=
    BitVec.extractLsb'_append_extractLsb'_eq_extractLsb' (len₁ := 12) (len₂ := 12) (by decide)
  rw [← happend, lenB_append_lenA_eq_zero_iff]

/-! Decoding. -/

theorem decode_encode (i : Instr) : decode (encode i) = .command i := by
  cases i with
  | keyld | enc | dec =>
    simp [decode, encode, fieldOp_packWord, fieldRsv_packWord, fieldLenB_packWord, fieldLenA_packWord]
  | blksz => decide
  | clr => decide

theorem encode_of_decode {w : Word} {i : Instr} (h : decode w = .command i) : encode i = w := by
  unfold decode at h
  split_ifs at h with hrsv hop hB hop hop hop hlen hop hlen <;> cases h <;>
    refine (packWord_eq_iff _ _ _ _).mpr ⟨hop, not_not.mp hrsv, ?_⟩
  · exact ⟨hB, rfl⟩
  · exact ⟨rfl, rfl⟩
  · exact ⟨rfl, rfl⟩
  · exact (low_bits_eq_zero_iff w).mp hlen
  · exact (low_bits_eq_zero_iff w).mp hlen

theorem decode_eq_command_iff (w : Word) (i : Instr) : decode w = .command i ↔ encode i = w :=
  ⟨encode_of_decode, fun h => h ▸ decode_encode i⟩

/-! The masks and the rows of the opcode map (rule R56). -/

theorem and_eq_packWord_iff (op : BitVec 4) (b a : Len) (w mask : Word) :
    w &&& mask = packWord op b a ↔
      fieldOp w &&& fieldOp mask = op ∧ fieldRsv w &&& fieldRsv mask = 0#4 ∧
        fieldLenB w &&& fieldLenB mask = b ∧ fieldLenA w &&& fieldLenA mask = a := by
  rw [eq_comm, packWord_eq_iff]
  simp only [fieldOp, fieldRsv, fieldLenB, fieldLenA, BitVec.extractLsb'_and]

section Masks

variable (w : Word) (op : BitVec 4)

/-- The mask of ENC and DEC looks at `OP` and `RSV`. -/
theorem and_mask_head_eq_iff :
    w &&& 0xFF000000#32 = packWord op 0#12 0#12 ↔ fieldOp w = op ∧ fieldRsv w = 0#4 := by
  rw [and_eq_packWord_iff, show fieldOp 0xFF000000#32 = BitVec.allOnes 4 from rfl,
    show fieldRsv 0xFF000000#32 = BitVec.allOnes 4 from rfl, show fieldLenB 0xFF000000#32 = 0#12 from rfl,
    show fieldLenA 0xFF000000#32 = 0#12 from rfl]
  simp only [BitVec.and_allOnes, BitVec.and_zero, and_true]

/-- The mask of KEYLD looks at `LEN_B` too. -/
theorem and_mask_lenB_eq_iff :
    w &&& 0xFFFFF000#32 = packWord op 0#12 0#12 ↔ fieldOp w = op ∧ fieldRsv w = 0#4 ∧ fieldLenB w = 0#12 := by
  rw [and_eq_packWord_iff, show fieldOp 0xFFFFF000#32 = BitVec.allOnes 4 from rfl,
    show fieldRsv 0xFFFFF000#32 = BitVec.allOnes 4 from rfl, show fieldLenB 0xFFFFF000#32 = BitVec.allOnes 12 from rfl,
    show fieldLenA 0xFFFFF000#32 = 0#12 from rfl]
  simp only [BitVec.and_allOnes, BitVec.and_zero, and_true]

/-- The mask of BLKSZ and CLR looks at the whole word. -/
theorem and_mask_word_eq_iff :
    w &&& 0xFFFFFFFF#32 = packWord op 0#12 0#12 ↔
      fieldOp w = op ∧ fieldRsv w = 0#4 ∧ fieldLenB w = 0#12 ∧ fieldLenA w = 0#12 := by
  rw [show 0xFFFFFFFF#32 = BitVec.allOnes 32 from rfl, BitVec.and_allOnes, eq_comm, packWord_eq_iff]

end Masks

section Rows

variable (w : Word)

theorem selects_keyld_iff :
    OpcodeRow.selects ⟨"KEYLD", 0x10000000#32, 0xFFFFF000#32⟩ w = true ↔
      fieldOp w = 0x1#4 ∧ fieldRsv w = 0#4 ∧ fieldLenB w = 0#12 :=
  beq_iff_eq.trans (and_mask_lenB_eq_iff w 0x1#4)

theorem selects_enc_iff :
    OpcodeRow.selects ⟨"ENC", 0x20000000#32, 0xFF000000#32⟩ w = true ↔ fieldOp w = 0x2#4 ∧ fieldRsv w = 0#4 :=
  beq_iff_eq.trans (and_mask_head_eq_iff w 0x2#4)

theorem selects_dec_iff :
    OpcodeRow.selects ⟨"DEC", 0x30000000#32, 0xFF000000#32⟩ w = true ↔ fieldOp w = 0x3#4 ∧ fieldRsv w = 0#4 :=
  beq_iff_eq.trans (and_mask_head_eq_iff w 0x3#4)

theorem selects_blksz_iff :
    OpcodeRow.selects ⟨"BLKSZ", 0x40000000#32, 0xFFFFFFFF#32⟩ w = true ↔
      fieldOp w = 0x4#4 ∧ fieldRsv w = 0#4 ∧ fieldLenB w = 0#12 ∧ fieldLenA w = 0#12 :=
  beq_iff_eq.trans (and_mask_word_eq_iff w 0x4#4)

theorem selects_clr_iff :
    OpcodeRow.selects ⟨"CLR", 0x50000000#32, 0xFFFFFFFF#32⟩ w = true ↔
      fieldOp w = 0x5#4 ∧ fieldRsv w = 0#4 ∧ fieldLenB w = 0#12 ∧ fieldLenA w = 0#12 :=
  beq_iff_eq.trans (and_mask_word_eq_iff w 0x5#4)

end Rows

/-! A row selects the words of its own mnemonic. -/

theorem exists_encode_of_selects {r : OpcodeRow} (hr : r ∈ opcodeRows) {w : Word} (h : r.selects w = true) :
    ∃ i, encode i = w ∧ i.mnemonic = r.mnemonic := by
  simp only [opcodeRows, List.mem_cons, List.not_mem_nil, or_false] at hr
  obtain rfl | rfl | rfl | rfl | rfl := hr
  · obtain ⟨hop, hrsv, hB⟩ := (selects_keyld_iff w).mp h
    exact ⟨.keyld (fieldLenA w), (packWord_eq_iff _ _ _ w).mpr ⟨hop, hrsv, hB, rfl⟩, rfl⟩
  · obtain ⟨hop, hrsv⟩ := (selects_enc_iff w).mp h
    exact ⟨.enc (fieldLenA w) (fieldLenB w), (packWord_eq_iff _ _ _ w).mpr ⟨hop, hrsv, rfl, rfl⟩, rfl⟩
  · obtain ⟨hop, hrsv⟩ := (selects_dec_iff w).mp h
    exact ⟨.dec (fieldLenA w) (fieldLenB w), (packWord_eq_iff _ _ _ w).mpr ⟨hop, hrsv, rfl, rfl⟩, rfl⟩
  · exact ⟨.blksz, (packWord_eq_iff _ _ _ w).mpr ((selects_blksz_iff w).mp h), rfl⟩
  · exact ⟨.clr, (packWord_eq_iff _ _ _ w).mpr ((selects_clr_iff w).mp h), rfl⟩

theorem exists_row_selects_encode (i : Instr) :
    ∃ r ∈ opcodeRows, r.mnemonic = i.mnemonic ∧ r.selects (encode i) = true :=
  match i with
  | .keyld len => Laws.OwnRow.keyld len
  | .enc slen dlen => Laws.OwnRow.enc slen dlen
  | .dec slen dlen => Laws.OwnRow.dec slen dlen
  | .blksz => Laws.OwnRow.blksz
  | .clr => Laws.OwnRow.clr

theorem row_eq_of_mnemonic_eq :
    ∀ r ∈ opcodeRows, ∀ r' ∈ opcodeRows, r.mnemonic = r'.mnemonic → r = r' := by
  decide

theorem selects_iff_exists_decode {r : OpcodeRow} (hr : r ∈ opcodeRows) (w : Word) :
    r.selects w = true ↔ ∃ i, decode w = .command i ∧ i.mnemonic = r.mnemonic := by
  simp only [decode_eq_command_iff]
  refine ⟨exists_encode_of_selects hr, ?_⟩
  rintro ⟨i, rfl, hname⟩
  obtain ⟨own, hown, hname', hsel⟩ := exists_row_selects_encode i
  rwa [row_eq_of_mnemonic_eq r hr own hown (hname.symm.trans hname'.symm)]

/-! The words no row selects (rule R57). -/

theorem selectsNoRow_iff_reserved (w : Word) : SelectsNoRow w ↔ ∃ why, decode w = .reserved why := by
  cases hd : decode w with
  | command i =>
    obtain ⟨r, hr, -, hsel⟩ := exists_row_selects_encode i
    rw [encode_of_decode hd] at hsel
    exact iff_of_false (fun h => by simp [h r hr] at hsel) (by simp)
  | reserved why =>
    refine iff_of_true (fun r hr => ?_) ⟨why, rfl⟩
    rw [Bool.eq_false_iff, Ne, selects_iff_exists_decode hr, hd]
    simp

/-- The opcodes of the five commands, and the two ranges no command has (rule R57). -/
theorem op_cases (op : BitVec 4) :
    op = 0x0#4 ∨ op = 0x1#4 ∨ op = 0x2#4 ∨ op = 0x3#4 ∨ op = 0x4#4 ∨ op = 0x5#4 ∨
      (0x6#4 ≤ op ∧ op ≠ 0x1#4 ∧ op ≠ 0x2#4 ∧ op ≠ 0x3#4 ∧ op ≠ 0x4#4 ∧ op ≠ 0x5#4) := by
  revert op
  decide

theorem selectsNoRow_iff_fields (w : Word) :
    SelectsNoRow w ↔
      fieldOp w = 0x0#4 ∨ 0x6#4 ≤ fieldOp w ∨ fieldRsv w ≠ 0#4 ∨ (fieldOp w = 0x1#4 ∧ fieldLenB w ≠ 0#12) ∨
        ((fieldOp w = 0x4#4 ∨ fieldOp w = 0x5#4) ∧ (fieldLenA w ≠ 0#12 ∨ fieldLenB w ≠ 0#12)) := by
  simp only [SelectsNoRow, opcodeRows, List.forall_mem_cons, Bool.eq_false_iff, Ne, selects_keyld_iff,
    selects_enc_iff, selects_dec_iff, selects_blksz_iff, selects_clr_iff]
  obtain h | h | h | h | h | h | ⟨h, h1, h2, h3, h4, h5⟩ := op_cases (fieldOp w)
  · simp [h]
  · simp [h]; tauto
  · simp [h]
  · simp [h]
  · simp [h]; tauto
  · simp [h]; tauto
  · simp [h, h1, h2, h3, h4, h5]

end Sys2Proof
end

section
/-! SUPPORT. What the assembler's lines present (rule R59): the word of a command, the saturated lengths, the given bytes. -/

namespace Sys2Proof.Machine

/-- The assembler's word, put together by shifts and ORs, is the packed word. -/
theorem or_shift_eq_packWord (op : BitVec 4) (b a : Len) :
    op.setWidth 32 <<< 28 ||| b.setWidth 32 <<< 12 ||| a.setWidth 32 = packWord op b a := by
  apply BitVec.eq_of_getLsbD_eq
  intro i hi
  simp only [getLsbD_packWord, BitVec.getLsbD_or, BitVec.getLsbD_shiftLeft, BitVec.getLsbD_setWidth]
  interval_cases i <;> simp

theorem assemble_keyld_word (len : Nat) (key : Block) :
    (assemble (.keyld len key)).word = encode (.keyld (saturate len)) :=
  or_shift_eq_packWord 0x1#4 0#12 (saturate len)

theorem assemble_enc_word (slen dlen : Nat) (block : Block) :
    (assemble (.enc slen dlen block)).word = encode (.enc (saturate slen) (saturate dlen)) :=
  or_shift_eq_packWord 0x2#4 (saturate dlen) (saturate slen)

theorem assemble_dec_word (slen dlen : Nat) (block : Block) :
    (assemble (.dec slen dlen block)).word = encode (.dec (saturate slen) (saturate dlen)) :=
  or_shift_eq_packWord 0x3#4 (saturate dlen) (saturate slen)

theorem toNat_saturate (len : Nat) : (saturate len).toNat = min len 4095 := by
  rw [saturate, BitVec.toNat_ofNat]
  omega

/-- A length below the saturation value is compared with its saturated form as with itself. -/
theorem saturate_eq_iff (len : Nat) {m : Len} (hm : m ≠ 4095#12) : saturate len = m ↔ len = m.toNat := by
  rw [← BitVec.toNat_inj, toNat_saturate]
  bv_omega

theorem saturate_lt_iff (len : Nat) {m : Len} : saturate len < m ↔ len < m.toNat := by
  rw [BitVec.lt_def, toNat_saturate]
  omega

theorem getElem_bytesOfBus_operandBus (len : Nat) (x : Block) (k : Nat) (hk : k < 16) :
    (bytesOfBus (operandBus len x))[k] = if k < len then x[k] else 0 := by
  simp [operandBus, bytesOfBus_busOfBytes]

theorem operandBus_sixteen (x : Block) : operandBus 16 x = busOfBytes x := by
  rw [operandBus]
  congr 1
  ext k hk
  simp [hk]

end Sys2Proof.Machine

end

section
/-! SUPPORT. What a step does to the ports and the responses (rules R52, R53), and the steps a command takes until its
answer (rule R140). -/

namespace Sys2Proof.Machine

/-! The host's side of the ports. -/

/-- A presented command that is not accepted stays on the port (rules R52, R135). -/
theorem hostMoves_false_presented {s u : State} (h : hostSide u = hostSide s) (hv : s.cmdValid = true) :
    (u.hostMoves false).cmdValid = true ∧ (u.hostMoves false).cmd = s.cmd ∧ (u.hostMoves false).din = s.din ∧
      (u.hostMoves false).pending = s.pending := by
  simp only [hostSide, Prod.mk.injEq] at h
  obtain ⟨-, hvalid, hcmd, hdin, hpend⟩ := h
  rw [hostMoves_held u (hvalid.trans hv)]
  exact ⟨hvalid.trans hv, hcmd, hdin, hpend⟩

theorem hostSide_of_engineStep {s u : State} (h : EngineStep s u) : hostSide u = hostSide s := by
  cases h with
  | ksRound => exact hostSide_of_carried (carried_ksRound s)
  | crRound => exact hostSide_of_carried (carried_crRound s)
  | reset | waitInFatal | idle | illegal | keyldUnsupported | keyldWrongLength | keyldStarted | transformRejected
  | transformStarted | blksz | clr =>
    rfl

/-! Responses. -/

section Responses

variable {s u : State}

theorem ksRound_responses (s : State) : s.ksRound.responses = s.responses ++ s.ksRound.rsp.toList := by
  unfold State.ksRound; split_ifs <;> simp [State.writeRoundKeys, State.setKeyRegs]

theorem crRound_responses (s : State) : s.crRound.responses = s.responses ++ s.crRound.rsp.toList := by
  unfold State.crRound; split_ifs <;> simp [State.setHalves]

/-- Every step but a reset adds its own response to the run's list (rule R143). -/
theorem responses_of_engineStep (h : EngineStep s u) (hr : s.rstAsserted = false) :
    u.responses = s.responses ++ u.rsp.toList := by
  cases h with
  | reset hr' => simp [hr] at hr'
  | ksRound => exact ksRound_responses s
  | crRound => exact crRound_responses s
  | waitInFatal | idle | keyldStarted | transformStarted => exact (List.append_nil _).symm
  | illegal | keyldUnsupported | keyldWrongLength | transformRejected | blksz | clr => rfl

theorem rnd_eq_fifteen {n : BitVec 4} (h : ¬ n.toNat < 15) : n = 15 := by
  bv_omega

/-- A response comes from an accept step or a sixteenth round (rule R53). -/
theorem accepts_or_last_round_of_rsp (h : EngineStep s u) (hrsp : u.rsp ≠ none) :
    AcceptsWord s ∨ ((s.fsm = .ks ∨ s.fsm = .cr) ∧ s.rnd = 15) := by
  cases h with
  | reset | waitInFatal | idle => exact absurd rfl hrsp
  | ksRound _ hf =>
    by_cases hn : s.rnd.toNat < 15
    · exact absurd (by rw [ksRound_rsp, if_pos hn]) hrsp
    · exact .inr ⟨.inl hf, rnd_eq_fifteen hn⟩
  | crRound _ hf =>
    by_cases hn : s.rnd.toNat < 15
    · exact absurd (by rw [crRound_rsp, if_pos hn]) hrsp
    · exact .inr ⟨.inr hf, rnd_eq_fifteen hn⟩
  | illegal ha | keyldUnsupported ha | keyldWrongLength ha | keyldStarted ha | transformRejected ha
  | transformStarted ha | blksz ha | clr ha =>
    exact .inl ha

/-- Only the sixteenth round of a transform puts a block on `dout`, with the code OK (rule R53). -/
theorem last_transform_round_of_dout (h : EngineStep s u) (hdout : u.dout ≠ 0) :
    s.fsm = .cr ∧ s.rnd = 15 ∧ u.rspCode = some 0x0 := by
  cases h with
  | ksRound =>
    refine absurd ?_ hdout
    rw [State.dout, ksRound_rsp]
    split_ifs <;> rfl
  | crRound _ hf =>
    by_cases hn : s.rnd.toNat < 15
    · refine absurd ?_ hdout
      rw [State.dout, crRound_rsp, if_pos hn]
    · refine ⟨hf, rnd_eq_fifteen hn, ?_⟩
      rw [State.rspCode, crRound_rsp, if_neg hn]
      rfl
  | reset | waitInFatal | idle | illegal | keyldUnsupported | keyldWrongLength | keyldStarted | transformRejected
  | transformStarted | blksz | clr =>
    exact absurd rfl hdout

end Responses

/-! The steps to the answer. -/

/-- A command is running, `n` of its rounds are done, and the run's responses are those before it. -/
structure Running (before : List Response) (n : Nat) (t : State) : Prop where
  busy : t.busy = true
  rnd : t.rnd.toNat = n
  rsp : t.rsp = none
  responses : t.responses = before

/-- The step just taken has answered the command, and the engine is done with it. -/
def Answered (before : List Response) (t : State) : Prop :=
  t.busy = false ∧ ∃ r, t.rsp = some r ∧ t.responses = before ++ [r]

section Steps

variable {s u t : State} {before : List Response}

theorem Running.hostMoves {n : Nat} (h : Running before n u) (accepted : Bool) :
    Running before n (u.hostMoves accepted) :=
  ⟨by simpa [State.busy] using h.busy, by simpa using h.rnd, by simpa using h.rsp, by simpa using h.responses⟩

theorem Answered.hostMoves (h : Answered before u) (accepted : Bool) : Answered before (u.hostMoves accepted) := by
  simpa [Answered, State.busy] using h

theorem answered_of_rsp {r : Response} (h : EngineStep s u) (hr : s.rstAsserted = false) (hb : u.busy = false)
    (hrsp : u.rsp = some r) : Answered s.responses u :=
  ⟨hb, r, hrsp, by rw [responses_of_engineStep h hr, hrsp, Option.toList_some]⟩

theorem stepsOf_transformInstr (dir : Dir) (slen dlen : Len) (s : State) :
    stepsOf (transformInstr dir slen dlen) s = if TransformAllowed slen dlen s then 17 else 1 := by
  cases dir <;> rfl

theorem stepsOfWord_of_command {w : Word} {i : Instr} (h : decode w = .command i) (s : State) :
    stepsOfWord w s = stepsOf i s := by
  rw [stepsOfWord, h]

/-- An accept step answers a word of one step, and starts the rounds of a word of seventeen (rule R140). -/
theorem accepted_of_engineStep (h : EngineStep s u) (ha : AcceptsWord s) :
    (stepsOfWord s.cmd s = 1 ∧ Answered s.responses u) ∨
      (stepsOfWord s.cmd s = 17 ∧ Running s.responses 0 u) := by
  have ⟨hr, hf, hv⟩ := ha
  have hidle : s.busy = false := by simp [State.busy, hf]
  have answered {r : Response} := answered_of_rsp (r := r) h hr
  cases h with
  | reset hr' => simp [hr] at hr'
  | waitInFatal _ hf' => simp [hf] at hf'
  | idle _ _ hv' => simp [hv] at hv'
  | ksRound _ hf' => simp [hf] at hf'
  | crRound _ hf' => simp [hf] at hf'
  | illegal _ hd => exact .inl ⟨by rw [stepsOfWord, hd], answered rfl rfl⟩
  | keyldUnsupported _ hd hl =>
    exact .inl ⟨(stepsOfWord_of_command hd s).trans (if_neg fun hc => hc.2 hl), answered hidle rfl⟩
  | keyldWrongLength _ hd _ hn =>
    exact .inl ⟨(stepsOfWord_of_command hd s).trans (if_neg fun hc => hn hc.1), answered hidle rfl⟩
  | keyldStarted _ hd hl =>
    exact .inr ⟨(stepsOfWord_of_command hd s).trans (if_pos ⟨rfl, hl⟩), rfl, rfl, rfl, rfl⟩
  | transformRejected _ hd hl =>
    exact .inl ⟨by rw [stepsOfWord_of_command hd, stepsOf_transformInstr, if_neg hl], answered rfl rfl⟩
  | transformStarted _ hd hl =>
    exact .inr ⟨by rw [stepsOfWord_of_command hd, stepsOf_transformInstr, if_pos hl], rfl, rfl, rfl, rfl⟩
  | blksz _ hd => exact .inl ⟨stepsOfWord_of_command hd s, answered hidle rfl⟩
  | clr _ hd => exact .inl ⟨stepsOfWord_of_command hd s, answered hidle rfl⟩

theorem busy_iff (s : State) : s.busy = true ↔ s.fsm = .ks ∨ s.fsm = .cr := by
  simp [State.busy]

/-- What both kinds of round have in common: the round counter, and the end of the activity with a response. -/
theorem running_or_answered_of_round {n : Nat} (h : Running before n s) (hu : EngineStep s u)
    (hr : s.rstAsserted = false) (hfsm : u.fsm = if s.rnd.toNat < 15 then s.fsm else .idle)
    (hrnd : u.rnd = if s.rnd.toNat < 15 then s.rnd + 1 else 0) (hrsp : u.rsp = none ↔ s.rnd.toNat < 15) :
    if n < 15 then Running before (n + 1) u else Answered before u := by
  obtain ⟨hb, rfl, -, rfl⟩ := h
  split_ifs with hn
  · rw [if_pos hn] at hfsm hrnd
    have hnone : u.rsp = none := hrsp.mpr hn
    refine ⟨?_, by rw [hrnd]; bv_omega, hnone, by simp [responses_of_engineStep hu hr, hnone]⟩
    rwa [busy_iff, hfsm, ← busy_iff]
  · rw [if_neg hn] at hfsm
    obtain ⟨r, hsome⟩ := Option.ne_none_iff_exists'.mp (mt hrsp.mp hn)
    exact answered_of_rsp hu hr (by simp [State.busy, hfsm]) hsome

/-- One round of a running command: on to the next, or after the sixteenth the answer. -/
theorem step_of_running {n : Nat} (h : Running before n s) (hr : s.rstAsserted = false) :
    ∃ t, step s = .next t ∧ t.rst = s.rst.tail ∧ if n < 15 then Running before (n + 1) t else Answered before t := by
  have moved {u : State} (hs : step s = .next (u.hostMoves false)) (hu : EngineStep s u)
      (hround : if n < 15 then Running before (n + 1) u else Answered before u) :
      ∃ t, step s = .next t ∧ t.rst = s.rst.tail ∧
        if n < 15 then Running before (n + 1) t else Answered before t := by
    refine ⟨_, hs, by simp [rst_of_hostSide (hostSide_of_engineStep hu)], ?_⟩
    split_ifs at hround ⊢
    · exact hround.hostMoves false
    · exact hround.hostMoves false
  obtain hf | hf := (busy_iff s).mp h.busy
  · have hu : EngineStep s s.ksRound := .ksRound hr hf
    exact moved (step_of_ks hr hf) hu
      (running_or_answered_of_round h hu hr (ksRound_fsm s) (ksRound_rnd s) (by rw [ksRound_rsp]; simp))
  · have hu : EngineStep s s.crRound := .crRound hr hf
    exact moved (step_of_cr hr hf) hu
      (running_or_answered_of_round h hu hr (crRound_fsm s) (crRound_rnd s) (by rw [crRound_rsp]; simp))

/-- Up to the last round a running command gives no response. -/
theorem run_of_running {n : Nat} (k m : Nat) (h : Running before n s) (hk : n + k ≤ 15) (hr : NoResetFor (k + m) s) :
    ∃ t, Sys2Proof.core.run k s = .next t ∧ Running before (n + k) t ∧ NoResetFor m t := by
  induction k generalizing s n with
  | zero => exact ⟨s, rfl, h, by rwa [Nat.zero_add] at hr⟩
  | succ k ih =>
    rw [Nat.succ_add] at hr
    obtain ⟨u, hu, hrst, hround⟩ := step_of_running h (rstAsserted_of_noResetFor hr)
    rw [if_pos (by omega)] at hround
    obtain ⟨t, ht, hrun, hleft⟩ := ih hround (by omega) (noResetFor_of_tail hr hrst)
    exact ⟨t, (run_succ k s u hu).trans ht, by rwa [Nat.add_right_comm] at hrun, hleft⟩

/-- Sixteen rounds bring the answer. -/
theorem run_sixteen_of_running (h : Running before 0 s) (hr : NoResetFor 16 s) :
    ∃ t, Sys2Proof.core.run 16 s = .next t ∧ Answered before t := by
  obtain ⟨u, hu, hrun, hleft⟩ := run_of_running 15 1 h le_rfl hr
  obtain ⟨t, ht, -, hround⟩ := step_of_running hrun (rstAsserted_of_noResetFor hleft)
  exact ⟨t, (run_add 15 1 s u hu).trans (run_succ 0 u t ht), hround⟩

/-- The accept step of a word, which is its answer or leaves its sixteen rounds to run. -/
theorem step_of_accepted_word (ha : AcceptsWord s) :
    ∃ t, step s = .next t ∧ t.rst = s.rst.tail ∧
      ((stepsOfWord s.cmd s = 1 ∧ Answered s.responses t) ∨
        (stepsOfWord s.cmd s = 17 ∧ Running s.responses 0 t)) := by
  obtain ⟨t, ht⟩ | ⟨hfatal, -⟩ := step_next_or_stuck s
  · obtain ⟨u, accepted, hu, rfl⟩ := engineStep_of_step ht
    refine ⟨_, ht, by simp [rst_of_hostSide (hostSide_of_engineStep hu)], ?_⟩
    exact (accepted_of_engineStep hu ha).imp (.imp_right (·.hostMoves accepted)) (.imp_right (·.hostMoves accepted))
  · simp [ha.2.1] at hfatal

end Steps

end Sys2Proof.Machine

end

section
/-! PROOFS. The statements about the encoding and the command port (30_encoding.md): the two directions of decoding, the
opcode map and the reserved words, the assembler, and how a command waits and is answered. -/

namespace Sys2Proof

open Machine

/-- Settles O1: the fields of a packed word are those it was packed from. -/
theorem encodedCommandDecodesBack : Obligations.EncodedCommandDecodesBack :=
  decode_encode

/-- Settles O2: each branch of the decoder fixes every field of the word. -/
theorem decodedWordEncodesBack : Obligations.DecodedWordEncodesBack :=
  fun _ _ => encode_of_decode

/-- Settles O3: two rows that select one word select it for one command, and rows are told apart by their mnemonics. -/
theorem opcodeMapSelectsCommand : Obligations.OpcodeMapSelectsCommand := by
  refine fun w => ⟨fun r hr => selects_iff_exists_decode hr w, fun r hr r' hr' h h' => ?_⟩
  obtain ⟨i, hi, hname⟩ := (selects_iff_exists_decode hr w).mp h
  obtain ⟨i', hi', hname'⟩ := (selects_iff_exists_decode hr' w).mp h'
  have hsame : i = i' := Decoded.command.inj (hi.symm.trans hi')
  exact row_eq_of_mnemonic_eq r hr r' hr' (by rw [← hname, ← hname', hsame])

/-- Settles O4: a word no row selects decodes as reserved, and its accept step is IllegalCommand. -/
theorem reservedEncodingIsFatal : Obligations.ReservedEncodingIsFatal := by
  refine ⟨fun w => ⟨selectsNoRow_iff_fields w, selectsNoRow_iff_reserved w⟩, fun s ha hno => ?_⟩
  obtain ⟨why, hd⟩ := (selectsNoRow_iff_reserved s.cmd).mp hno
  refine ⟨_, step_of_reserved ha hd, ?_, engine_hostMoves s.illegalCommand true⟩
  rw [State.rspCode, hostMoves_rsp]
  rfl

/-- Settles O6: a line's word is the encoding of its command, and its bus carries the given bytes. -/
theorem assembledLinePresentsCommand : Obligations.AssembledLinePresentsCommand := by
  refine ⟨toNat_saturate, fun len key => ?_, fun slen dlen block => ?_, fun slen dlen block => ?_,
    fun len m x k hk => ?_, decode_encode .blksz, decode_encode .clr, fun w => rfl, fun x => ?_⟩
  · rw [assemble_keyld_word, decode_encode]
  · rw [assemble_enc_word, decode_encode]
  · rw [assemble_dec_word, decode_encode]
  · have hbyte := getElem_bytesOfBus_operandBus len x k hk
    exact ⟨hbyte, hbyte, hbyte⟩
  · simp only [assemble, operandBus_sixteen, Command.mk.injEq, and_true]
    decide

/-- Settles O7: 4095 is no member of UNSUPPORTED_KEY_LENS, so no compared length is the saturation value. -/
theorem saturationChangesNoOutcome : Obligations.SaturationChangesNoOutcome := by
  intro p len hp
  simp only [Params.wellFormed, Bool.and_eq_true] at hp
  obtain ⟨⟨-, hbelow⟩, -⟩ := hp
  have hmax : 4095#12 ∉ p.unsupportedKeyLens := by simpa [Params.belowSaturation] using hbelow
  refine ⟨saturate_eq_iff len (by decide), saturate_lt_iff len, fun m hm => saturate_eq_iff len ?_⟩
  rintro rfl
  exact hmax hm

/-- Settles O33: outside `IDLE` no step accepts, so the host's move holds the command on the port. -/
theorem presentedCommandWaits : Obligations.PresentedCommandWaits := by
  intro s t hidle h
  refine ⟨by simpa [State.cmdReady] using hidle, fun hv => ?_⟩
  obtain ⟨-, rfl⟩ | ⟨-, ⟨-, -, rfl⟩ | ⟨-, rfl⟩ | ⟨-, rfl⟩ | ⟨hf, -⟩ | ⟨hf, -⟩⟩ := step_cases s t h
  · exact hostMoves_false_presented rfl hv
  · exact hostMoves_false_presented rfl hv
  · exact hostMoves_false_presented (hostSide_of_carried (carried_ksRound s)) hv
  · exact hostMoves_false_presented (hostSide_of_carried (carried_crRound s)) hv
  · exact absurd hf hidle
  · exact absurd hf hidle

/-- Settles O42: the three rules hold of every kind of step, and the host's move touches no response. -/
theorem responsesAreEmittedOnce : Obligations.ResponsesAreEmittedOnce := by
  intro s t h hr
  obtain ⟨u, accepted, hu, rfl⟩ := engineStep_of_step h
  simp only [State.dout, State.rspCode, hostMoves_rsp, hostMoves_responses]
  exact ⟨responses_of_engineStep hu hr, accepts_or_last_round_of_rsp hu, last_transform_round_of_dout hu⟩

/-- Settles O53: the accept step answers at once or starts sixteen rounds, of which the last alone answers. -/
theorem commandsAnswerInStepCount : Obligations.CommandsAnswerInStepCount := by
  intro s ha hr
  obtain ⟨t, ht, hrst, ⟨hsteps, hb, r, hanswer⟩ | ⟨hsteps, hrun⟩⟩ := step_of_accepted_word ha
  · rw [hsteps]
    exact ⟨by decide, ⟨t, r, run_succ 0 s t ht, hb, hanswer⟩, fun k _ _ => by omega⟩
  · have hleft : NoResetFor 16 t := noResetFor_of_tail hr hrst
    obtain ⟨v, hv, hb, r, hanswer⟩ := run_sixteen_of_running hrun hleft
    rw [hsteps]
    refine ⟨le_rfl, ⟨v, r, (run_succ 16 s t ht).trans hv, hb, hanswer⟩, fun k hpos hk => ?_⟩
    obtain ⟨j, rfl⟩ : ∃ j, k = j + 1 := ⟨k - 1, by omega⟩
    obtain ⟨u, hu, hrunning, -⟩ := run_of_running j 0 hrun (by omega) fun i hi => hleft i (by omega)
    exact ⟨u, (run_succ j s t ht).trans hu, hrunning.busy, hrunning.rsp, hrunning.responses⟩

/-- Settles O5: the listed words are evaluated. -/
theorem listedWordsDecode : Obligations.ListedWordsDecode := by
  unfold Obligations.ListedWordsDecode
  decide

end Sys2Proof

end

section
/-! SUPPORT. The linear mixer (rule R66), the tables as mixed S-box entries (rules R36, R65), and G as four mixed S-box entries
in either form (rules R67, R68). -/

namespace Sys2Proof.Machine

/-! The mixer. -/

theorem xor_and_maskAt (s t : Byte) (k : Nat) : (s ^^^ t) &&& maskAt k = (s &&& maskAt k) ^^^ (t &&& maskAt k) := by
  ext i hi
  simp [Bool.and_xor_distrib_right]

/-- Words are XORed byte lane by byte lane: the library's `BitVec.xor_append` at the width of a word. -/
theorem xor_append_bytes (p q r t p' q' r' t' : Byte) :
    ((p ++ q ++ r ++ t : Word) ^^^ (p' ++ q' ++ r' ++ t' : Word)) =
      (p ^^^ p') ++ (q ^^^ q') ++ (r ^^^ r') ++ (t ^^^ t') :=
  BitVec.xor_append.trans (by simp only [BitVec.xor_append])

theorem mix_xor (s t : Byte) (j : Nat) : mix (s ^^^ t) j = mix s j ^^^ mix t j := by
  simp only [mix, xor_and_maskAt, xor_append_bytes]

theorem mix_zero (j : Nat) : mix 0 j = 0 := by
  simp [mix]

/-! The word tables: each names the masks of the mixer at its own rotation. -/

/-- Four bytes shifted to their lanes stand side by side, as in a big-endian word. -/
theorem or_shifts_eq_append (p q r t : Byte) :
    p.setWidth 32 <<< 24 ||| q.setWidth 32 <<< 16 ||| r.setWidth 32 <<< 8 ||| t.setWidth 32 = p ++ q ++ r ++ t := by
  simpa [be32] using be32_eq_append #v[p, q, r, t, 0, 0, 0, 0, 0, 0, 0, 0, 0, 0, 0, 0] 0 (by decide)

theorem sub_zero_eq_mix (x : Byte) : sub 0 x = mix (s1 x) 0 := or_shifts_eq_append ..

theorem sub_one_eq_mix (x : Byte) : sub 1 x = mix (s2 x) 1 := or_shifts_eq_append ..

theorem sub_two_eq_mix (x : Byte) : sub 2 x = mix (s1 x) 2 := or_shifts_eq_append ..

theorem sub_three_eq_mix (x : Byte) : sub 3 x = mix (s2 x) 3 := or_shifts_eq_append ..

/-! G. -/

theorem g_eq_xor_mix (x : Word) :
    g x = mix (s1 (lane x 0)) 0 ^^^ mix (s2 (lane x 1)) 1 ^^^ mix (s1 (lane x 2)) 2 ^^^ mix (s2 (lane x 3)) 3 := by
  rw [g, sub_zero_eq_mix, sub_one_eq_mix, sub_two_eq_mix, sub_three_eq_mix]

/-- The byte form takes the XOR of the four mixed bytes lane by lane, with the mask indices reduced modulo 4. -/
theorem gBytes_eq_xor_mix (x : Word) :
    gBytes x = mix (s1 (lane x 0)) 0 ^^^ mix (s2 (lane x 1)) 1 ^^^ mix (s1 (lane x 2)) 2 ^^^ mix (s2 (lane x 3)) 3 := by
  simp only [mix, xor_append_bytes]
  rfl

end Sys2Proof.Machine
end

section
/-! PROOFS. The statements about the round function (40_g_function.md): the mixer, the tables, the two forms of G, and F. -/

namespace Sys2Proof

open Machine

/-- Settles O11: AND with a mask distributes over XOR, byte lane by byte lane. -/
theorem mixerIsLinear : Obligations.MixerIsLinear :=
  fun s t j => ⟨mix_xor s t j, mix_zero j⟩

/-- Settles O13: both forms are the XOR of four mixed S-box entries. -/
theorem byteFormOfGAgrees : Obligations.ByteFormOfGAgrees :=
  fun x => (g_eq_xor_mix x).trans (gBytes_eq_xor_mix x).symm

/-- Settles O10: the masks of each table are those of the mixer at the table's rotation. -/
theorem tablesMixSBoxes : Obligations.TablesMixSBoxes :=
  fun x => ⟨sub_zero_eq_mix x, sub_one_eq_mix x, sub_two_eq_mix x, sub_three_eq_mix x⟩

/-- Settles O14: the lines of F give the closed form, in which each operand stands XORed with its key word. -/
theorem roundFunctionClosedForm : Obligations.RoundFunctionClosedForm := by
  refine fun c d k0 k1 => ⟨?_, f_congr _ _ _ _ _ _ _ _ BitVec.xor_zero.symm BitVec.xor_zero.symm⟩
  rw [f, BitVec.xor_assoc (c ^^^ k0), BitVec.xor_comm (c ^^^ k0) (d ^^^ k1)]

end Sys2Proof
end

section
/-! SUPPORT. The byte rotates as rotates of a 64-bit value (rule R5), how far they have turned the schedule's words after `n`
rounds (rule R81), and the entries of the array as the rounds leave them (rules R78, R80). -/

namespace Sys2Proof.Machine

/-! Rotates of a 64-bit value. -/

theorem getLsbD_rotateRight_mod (t : BitVec 64) (r i : Nat) (hi : i < 64) :
    (t.rotateRight r).getLsbD i = t.getLsbD ((i + r) % 64) := by
  rw [BitVec.getLsbD_rotateRight]
  by_cases h : i < 64 - r % 64
  · rw [decide_eq_true h, cond_true]
    congr 1
    omega
  · rw [decide_eq_false h, cond_false, decide_eq_true hi, Bool.true_and]
    congr 1
    omega

theorem rotateRight_of_full_turn (t : BitVec 64) {r : Nat} (h : r % 64 = 0) : t.rotateRight r = t := by
  rw [BitVec.rotateRight_def, h, BitVec.ushiftRight_zero, BitVec.shiftLeft_eq_zero le_rfl, BitVec.or_zero]

theorem rotateLeft_of_full_turn (t : BitVec 64) {r : Nat} (h : r % 64 = 0) : t.rotateLeft r = t := by
  rw [BitVec.rotateLeft_def, h, BitVec.shiftLeft_zero, BitVec.ushiftRight_eq_zero le_rfl, BitVec.or_zero]

/-- A rotate to the left is a rotate to the right by what is left of the full turn. -/
theorem rotateLeft_eq_rotateRight (t : BitVec 64) (r : Nat) : t.rotateLeft r = t.rotateRight (64 - r % 64) := by
  by_cases h : r % 64 = 0
  · rw [rotateLeft_of_full_turn t h, rotateRight_of_full_turn t (by omega)]
  · rw [BitVec.rotateLeft_def, BitVec.rotateRight_def, Nat.mod_eq_of_lt (a := 64 - r % 64) (by omega),
      Nat.sub_sub_self (Nat.mod_lt r (by decide)).le, BitVec.or_comm]

theorem rotateRight_congr (t : BitVec 64) {m n : Nat} (h : m % 64 = n % 64) : t.rotateRight m = t.rotateRight n := by
  rw [← BitVec.rotateRight_mod_eq_rotateRight, h, BitVec.rotateRight_mod_eq_rotateRight]

theorem rotateRight_rotateRight (t : BitVec 64) (m n : Nat) :
    (t.rotateRight m).rotateRight n = t.rotateRight (m + n) := by
  refine BitVec.eq_of_getLsbD_eq fun i hi => ?_
  rw [getLsbD_rotateRight_mod _ _ _ hi, getLsbD_rotateRight_mod _ _ _ hi,
    getLsbD_rotateRight_mod _ _ _ (Nat.mod_lt _ (by decide))]
  congr 1
  omega

theorem rotateLeft_rotateLeft (t : BitVec 64) (m n : Nat) :
    (t.rotateLeft m).rotateLeft n = t.rotateLeft (m + n) := by
  rw [rotateLeft_eq_rotateRight, rotateLeft_eq_rotateRight, rotateLeft_eq_rotateRight, rotateRight_rotateRight]
  exact rotateRight_congr t (by omega)

theorem ror64by8_eq_rotateRight (t : BitVec 64) : ror64by8 t = t.rotateRight 8 := by
  have hlow : (t &&& 0xFF) <<< 56 = t <<< 56 := by
    ext i hi
    interval_cases i <;> simp
  rw [ror64by8, hlow, BitVec.rotateRight_def]

theorem rol64by8_eq_rotateLeft (t : BitVec 64) : rol64by8 t = t.rotateLeft 8 := by
  rw [rol64by8, BitVec.rotateLeft_def]

theorem append_words_inj {x y x' y' : Word} (h : x ++ y = x' ++ y') : x = x' ∧ y = y' :=
  ⟨by simpa only [BitVec.extractLsb'_append_eq_left] using congrArg (BitVec.extractLsb' 32 32) h,
    by simpa only [BitVec.extractLsb'_append_eq_right] using congrArg (BitVec.extractLsb' 0 32) h⟩

/-- The low byte, cut out or masked. -/
theorem setWidth_extractLsb'_byte (x : Word) : (x.extractLsb' 0 8).setWidth 32 = x &&& 0xFF := by
  ext i hi
  interval_cases i <;> simp

/-! The words of the schedule. -/

theorem keyRegs_eq_of_pairs {k k' : KeyRegs} (hab : k.a ++ k.b = k'.a ++ k'.b) (hcd : k.c ++ k.d = k'.c ++ k'.d) :
    k = k' := by
  obtain ⟨ha, hb⟩ := append_words_inj hab
  obtain ⟨hc, hd⟩ := append_words_inj hcd
  exact (KeyRegs.mk.injEq ..).mpr ⟨ha, hb, hc, hd⟩

theorem rotateWords_of_even (k : KeyRegs) {i : BitVec 4} (h : i.toNat % 2 = 0) :
    rotateWords k i =
      ⟨k.a >>> 8 ||| (k.b &&& 0xFF) <<< 24, k.b >>> 8 ||| (k.a &&& 0xFF) <<< 24, k.c, k.d⟩ :=
  if_pos h

theorem rotateWords_of_odd (k : KeyRegs) {i : BitVec 4} (h : i.toNat % 2 = 1) :
    rotateWords k i = ⟨k.a, k.b, k.c <<< 8 ||| k.d >>> 24, k.d <<< 8 ||| k.c >>> 24⟩ :=
  if_neg (by omega)

/-- A round moves one pair by a byte, the pair its parity names (rule R81). -/
theorem rotateWords_pairs (k : KeyRegs) (i : BitVec 4) :
    (rotateWords k i).a ++ (rotateWords k i).b = (k.a ++ k.b).rotateRight (8 * ((i.toNat + 1) % 2)) ∧
      (rotateWords k i).c ++ (rotateWords k i).d = (k.c ++ k.d).rotateLeft (8 * (i.toNat % 2)) := by
  obtain h | h := Nat.mod_two_eq_zero_or_one i.toNat
  · rw [rotateWords_of_even k h, ← ror64by8_append, ror64by8_eq_rotateRight, h, Nat.succ_mod_two_eq_one_iff.mpr h]
    exact ⟨rfl, (rotateLeft_of_full_turn _ rfl).symm⟩
  · rw [rotateWords_of_odd k h, ← rol64by8_append, rol64by8_eq_rotateLeft, h, Nat.succ_mod_two_eq_zero_iff.mpr h]
    exact ⟨(rotateRight_of_full_turn _ rfl).symm, rfl⟩

/-- After `n` rounds the even ones among them have turned `A || B` and the odd ones `C || D`. -/
theorem scheduleAfter_pairs (key : Block) (rk0 : RoundKeys) (n : Nat) :
    (scheduleAfter key rk0 n).1.a ++ (scheduleAfter key rk0 n).1.b =
        ((KeyRegs.ofKey key).a ++ (KeyRegs.ofKey key).b).rotateRight (8 * ((n + 1) / 2)) ∧
      (scheduleAfter key rk0 n).1.c ++ (scheduleAfter key rk0 n).1.d =
        ((KeyRegs.ofKey key).c ++ (KeyRegs.ofKey key).d).rotateLeft (8 * (n / 2)) := by
  induction n with
  | zero => exact ⟨(rotateRight_of_full_turn _ rfl).symm, (rotateLeft_of_full_turn _ rfl).symm⟩
  | succ n ih =>
    obtain ⟨hab, hcd⟩ := ih
    obtain ⟨hab', hcd'⟩ := rotateWords_pairs (scheduleAfter key rk0 n).1 (BitVec.ofNat 4 n)
    have hn : (BitVec.ofNat 4 n).toNat = n % 16 := BitVec.toNat_ofNat n 4
    rw [scheduleAfter, scheduleRound, ← rotateWords_eq_rotatePairs, hab', hcd', hab, hcd, rotateRight_rotateRight,
      rotateLeft_rotateLeft, hn]
    constructor
    · congr 1; omega
    · congr 1; omega

/-- Sixteen rounds turn both pairs by 64 bits. -/
theorem scheduleAfter_sixteen_words (key : Block) (rk0 : RoundKeys) :
    (scheduleAfter key rk0 16).1 = KeyRegs.ofKey key := by
  obtain ⟨hab, hcd⟩ := scheduleAfter_pairs key rk0 16
  exact keyRegs_eq_of_pairs (hab.trans (rotateRight_of_full_turn _ rfl)) (hcd.trans (rotateLeft_of_full_turn _ rfl))

/-! The array. -/

theorem rkEven_injective : Function.Injective rkEven := by
  unfold Function.Injective; decide

theorem rkOdd_injective : Function.Injective rkOdd := by
  unfold Function.Injective; decide

/-- Round `i` writes the round keys of its own working words, and no later round overwrites them. -/
theorem rkRead_scheduleAfter_own_round (key : Block) (rk0 : RoundKeys) (i : BitVec 4) (n : Nat) (hi : i.toNat < n)
    (hn : n ≤ 16) :
    rkRead (scheduleAfter key rk0 n).2 (rkEven i) = roundKeyEven (scheduleAfter key rk0 i.toNat).1 i ∧
      rkRead (scheduleAfter key rk0 n).2 (rkOdd i) = roundKeyOdd (scheduleAfter key rk0 i.toNat).1 i := by
  induction n with
  | zero => omega
  | succ n ih =>
    by_cases hlast : i.toNat = n
    · subst hlast
      rw [scheduleAfter_succ_toNat, rkRead_scheduleRound, rkRead_scheduleRound, if_neg (rkEven_ne_rkOdd i i),
        if_pos rfl, if_pos rfl]
      exact ⟨rfl, rfl⟩
    · have hne : i ≠ BitVec.ofNat 4 n := by
        rintro rfl
        exact hlast ((BitVec.toNat_ofNat n 4).trans (Nat.mod_eq_of_lt (by omega)))
      rw [scheduleAfter, rkRead_scheduleRound, rkRead_scheduleRound, if_neg (rkEven_ne_rkOdd _ _),
        if_neg (rkEven_injective.ne hne), if_neg (rkOdd_injective.ne hne), if_neg (rkEven_ne_rkOdd _ _).symm]
      exact ih (by omega) (by omega)

end Sys2Proof.Machine
end

section
/-! SUPPORT. The accept steps of ENC and DEC as one (rule R91), and a whole schedule on the machine (rules R76, R78, R80): the
state before each of its rounds, and the run through them. -/

namespace Sys2Proof.Machine

theorem exec_transformInstr (dir : Dir) (slen dlen : Len) (s : State) :
    exec (transformInstr dir slen dlen) s = .next (s.acceptTransform dir slen dlen) := by
  cases dir <;> rfl

/-- `s` with the schedule of `key` running in it, `n` of its rounds done over the array of `s`. -/
def inSchedule (key : Block) (n : Nat) (s : State) : State :=
  State.setKeyRegs
    { s with rk := (scheduleAfter key s.rk n).2, keyValid := false, rnd := BitVec.ofNat 4 n, fsm := .ks, rsp := none }
    (scheduleAfter key s.rk n).1

theorem startSchedule_eq_inSchedule (s : State) : s.startSchedule = inSchedule (bytesOfBus s.din) 0 s := by
  rw [inSchedule, scheduleAfter, ← startSchedule_keyRegs]
  rfl

/-- A round that is not the last leads from each such state to the next. -/
theorem ksRound_inSchedule (key : Block) (s : State) {n : Nat} (hn : n < 15) :
    (inSchedule key n s).ksRound = inSchedule key (n + 1) s := by
  have hrnd : (inSchedule key n s).rnd.toNat < 15 := by simp [inSchedule]; omega
  rw [ksRound_of_lt _ hrnd, rotateWords_eq_rotatePairs]
  simp only [inSchedule, BitVec.ofNat_add]
  rfl

/-- The sixteenth round leaves the whole schedule in the array and the engine at rest. -/
theorem ksRound_inSchedule_last (key : Block) (s : State) :
    (inSchedule key 15 s).ksRound =
      State.respondOk
        (State.setKeyRegs { s with rk := keySchedule key, keyValid := true, rnd := 0, fsm := .idle } ⟨0, 0, 0, 0⟩)
        0 0 := by
  rw [ksRound_of_last _ (by simp [inSchedule]), ← scheduleAfter_sixteen key s.rk]
  rfl

theorem engine_ksRound (s : State) : engine s.ksRound = (engine s).ksRound := by
  by_cases h : s.rnd.toNat < 15
  · rw [ksRound_of_lt s h, ksRound_of_lt (engine s) h]; rfl
  · rw [ksRound_of_last s h, ksRound_of_last (engine s) h]; rfl

/-- Whatever the host does, a step in `KS` does to the engine what the round does. -/
theorem step_of_ks_sameEngine {s u : State} (h : SameEngine s u) (hf : u.fsm = .ks) (hr : s.rstAsserted = false) :
    ∃ t, step s = .next t ∧ t.rst = s.rst.tail ∧ SameEngine t u.ksRound := by
  have hs : s.fsm = .ks := (congrArg State.fsm h).trans hf
  refine ⟨_, step_of_ks hr hs, by simp [rst_of_hostSide (hostSide_of_carried (carried_ksRound s))], ?_⟩
  rw [SameEngine, engine_hostMoves, engine_ksRound, engine_ksRound, h]

/-- The rounds left of a schedule, run to its end. -/
theorem run_inSchedule (key : Block) (u : State) {s : State} {n : Nat} (m : Nat) (h : SameEngine s (inSchedule key n u))
    (hn : n + m = 15) (hr : NoResetFor (m + 1) s) :
    ∃ t, Sys2Proof.core.run (m + 1) s = .next t ∧ SameEngine t (inSchedule key 15 u).ksRound := by
  induction m generalizing s n with
  | zero =>
    obtain rfl : n = 15 := hn
    obtain ⟨t, ht, -, hround⟩ := step_of_ks_sameEngine h rfl (rstAsserted_of_noResetFor hr)
    exact ⟨t, run_succ 0 s t ht, hround⟩
  | succ m ih =>
    obtain ⟨v, hv, hrst, hround⟩ := step_of_ks_sameEngine h rfl (rstAsserted_of_noResetFor hr)
    rw [ksRound_inSchedule key u (by omega)] at hround
    obtain ⟨t, ht, hdone⟩ := ih hround (by omega) (noResetFor_of_tail hr hrst)
    exact ⟨t, (run_succ (m + 1) s v hv).trans ht, hdone⟩

end Sys2Proof.Machine
end

section
/-! PROOFS. The statements about the key schedule (41_key_schedule.md): the working words and the array as a function of the
key, KEYLD's accept step, the round step, and the whole command; with the frames of the accept steps. -/

namespace Sys2Proof

open Machine

/-- Settles O16: each round turns one of the pairs by a byte. -/
theorem keyWordsTurnFully : Obligations.KeyWordsTurnFully := by
  intro key rk0 n _
  obtain ⟨hab, hcd⟩ := scheduleAfter_pairs key rk0 n
  exact ⟨hab, hcd, fun h16 => h16 ▸ scheduleAfter_sixteen_words key rk0⟩

/-- Settles O17: sixteen rounds write the whole array, each round its own two entries. -/
theorem scheduleWritesEveryEntry : Obligations.ScheduleWritesEveryEntry := by
  intro key rk0 i
  rw [← scheduleAfter_sixteen key rk0]
  exact ⟨rfl, rkRead_scheduleAfter_own_round key rk0 i 16 i.isLt le_rfl⟩

/-- Settles O22: the first two outcomes are the response alone; the third captures the words of the bus. -/
theorem keyldAcceptStep : Obligations.KeyldAcceptStep := by
  refine fun len s => ⟨exec_keyld_of_unsupported, exec_keyld_of_wrong_length, ?_⟩
  rintro h rfl
  rw [exec_keyld_of_sixteen h]
  simp only [be32_bytesOfBus]
  rfl

/-- Settles O28: each outcome of an accept step writes the named fields alone. -/
theorem acceptStepFrames : Obligations.AcceptStepFrames := by
  refine fun s t len slen dlen dir => ⟨fun h => ?_, fun h => ?_, fun h => ?_, fun h => ?_⟩
  · obtain ⟨-, he⟩ | ⟨-, -, he⟩ | ⟨-, h16, he⟩ := execKeyld_cases len s <;> cases he.symm.trans h
    · exact ⟨rfl, fun _ => rfl⟩
    · exact ⟨rfl, fun _ => rfl⟩
    · exact ⟨rfl, fun hne => absurd h16 hne⟩
  · rw [exec_transformInstr] at h
    cases h
    refine ⟨fun hl => ?_, fun hl => ?_⟩
    · rw [acceptTransform_of_allowed dir hl]; rfl
    · obtain ⟨code, info, -, he⟩ := acceptTransform_of_not_allowed dir hl
      rw [he s rfl]; rfl
  · cases h; rfl
  · cases h; rfl

/-- Settles O30: the round writes its two entries, turns the words its parity names, and in the sixteenth clears them. -/
theorem keyScheduleRoundStep : Obligations.KeyScheduleRoundStep := by
  intro s hf hr
  refine ⟨_, step_of_ks hr hf, ?_, ?_, fun j he ho => ?_, fun hn => ⟨?_, fun hp => ?_, fun hp => ?_⟩, fun hn => ?_⟩
  · rw [hostMoves_rk, ksRound_rk, rkRead_scheduleRound, if_neg (rkEven_ne_rkOdd _ _), if_pos rfl]
    rfl
  · rw [hostMoves_rk, ksRound_rk, rkRead_scheduleRound, if_pos rfl]
    rfl
  · rw [hostMoves_rk, ksRound_rk, rkRead_scheduleRound, if_neg ho, if_neg he]
  · simp only [engine_hostMoves, hostMoves_a, hostMoves_b, hostMoves_c, hostMoves_d, hostMoves_rk, ksRound_of_lt s hn]
    rfl
  · simp only [hostMoves_a, hostMoves_b, hostMoves_c, hostMoves_d, ksRound_of_lt s hn, rotateWords_of_even _ hp,
      setWidth_extractLsb'_byte, ror64by8_append]
    exact ⟨rfl, rfl, rfl, rfl, rfl⟩
  · simp only [hostMoves_a, hostMoves_b, hostMoves_c, hostMoves_d, ksRound_of_lt s hn, rotateWords_of_odd _ hp,
      rol64by8_append]
    exact ⟨rfl, rfl, rfl, rfl, rfl⟩
  · rw [engine_hostMoves, hostMoves_rk, ksRound_of_last s (by simp [hn])]
    rfl

/-- Settles O50: the accept step begins the schedule of the key on the bus, and the run goes through its rounds. -/
theorem keyldComputesSchedule : Obligations.KeyldComputesSchedule := by
  intro s ha hr hl
  have hstep : step s = .next (s.startSchedule.hostMoves true) := step_of_accepts ha (exec_keyld_of_sixteen hl)
  have hbegun : SameEngine (s.startSchedule.hostMoves true) (inSchedule (bytesOfBus s.din) 0 s) := by
    rw [SameEngine, engine_hostMoves, startSchedule_eq_inSchedule]
  have hleft : NoResetFor 16 (s.startSchedule.hostMoves true) := noResetFor_of_tail hr (by simp)
  obtain ⟨t, ht, hdone⟩ := run_inSchedule (bytesOfBus s.din) s 15 hbegun rfl hleft
  refine ⟨t, (run_succ 16 s _ hstep).trans ht, hdone.trans ?_⟩
  rw [ksRound_inSchedule_last]
  rfl

end Sys2Proof
end

section
/-! SUPPORT. The words of a block both ways (rule R42), and the transform run backwards by the other direction's key order (rules
R87, R92, R94). -/

namespace Sys2Proof.Machine

/-! Blocks and their four words. -/

theorem busOfBytes_toBlock (h : Halves) : busOfBytes h.toBlock = h.l0 ++ h.l1 ++ h.r0 ++ h.r1 := by
  rw [Halves.toBlock, ← bytesOfBus_append, busOfBytes_bytesOfBus]

/-- The words of the block on a bus are the words of the bus. -/
theorem Halves.ofBlock_bytesOfBus (x : Bus) :
    Halves.ofBlock (bytesOfBus x) = ⟨busWord0 x, busWord1 x, busWord2 x, busWord3 x⟩ := by
  simp only [Halves.ofBlock, be32_bytesOfBus]
  rfl

theorem append_busWords (x : Bus) : busWord0 x ++ busWord1 x ++ busWord2 x ++ busWord3 x = x := by
  simp only [busWord0, busWord1, busWord2, busWord3]
  simp only [BitVec.extractLsb'_append_extractLsb'_eq_extractLsb', -Nat.reduceAdd]
  exact BitVec.extractLsb'_eq_self

theorem Halves.toBlock_ofBlock (b : Block) : (Halves.ofBlock b).toBlock = b := by
  rw [← bytesOfBus_busOfBytes b, Halves.ofBlock_bytesOfBus, Halves.toBlock, ← bytesOfBus_append, append_busWords]

theorem extractLsb'_append_words (w0 w1 w2 w3 : Word) (k : Nat) (hk : k < 4) :
    (w0 ++ w1 ++ w2 ++ w3).extractLsb' (96 - 32 * k) 32 = #v[w0, w1, w2, w3][k] := by
  interval_cases k <;>
    simp [-Nat.reduceAdd, BitVec.extractLsb'_append_eq_of_le, BitVec.extractLsb'_append_eq_of_add_le,
      BitVec.extractLsb'_eq_self]

theorem Halves.ofBlock_toBlock (h : Halves) : Halves.ofBlock h.toBlock = h := by
  have hword := extractLsb'_append_words h.l0 h.l1 h.r0 h.r1
  rw [Halves.toBlock, ← bytesOfBus_append, Halves.ofBlock_bytesOfBus]
  exact (Halves.mk.injEq ..).mpr ⟨hword 0 (by decide), hword 1 (by decide), hword 2 (by decide), hword 3 (by decide)⟩

/-! The loop of rule R92, pass by pass. -/

theorem transformAfter_succ_of_lt (rk : RoundKeys) (dir : Dir) (h : Halves) {n : Nat} (hn : n < 15) :
    transformAfter rk dir h (n + 1) =
      (mixLeft rk (roundIndex dir (BitVec.ofNat 4 n)) (transformAfter rk dir h n)).swap :=
  if_pos hn

theorem transformAfter_sixteen (rk : RoundKeys) (dir : Dir) (h : Halves) :
    transformAfter rk dir h 16 = mixLeft rk (roundIndex dir 15) (transformAfter rk dir h 15) := by
  rw [transformAfter, if_neg (lt_irrefl 15)]
  rfl

/-! The way back. -/

section Reverse

variable {dir back : Dir}

/-- After `m` passes over the result, the words are those before pass `15 - m` with `F` added into Left: each pass takes the
`F` out that the last one left in, and swaps back (rule R94). -/
theorem transformAfter_back (hback : ∀ n, roundIndex back n = roundIndex dir (15 - n)) (rk : RoundKeys) (h : Halves)
    {m n : Nat} (hm : m + n = 15) :
    transformAfter rk back (transformAfter rk dir h 16) m =
      mixLeft rk (roundIndex dir (BitVec.ofNat 4 n)) (transformAfter rk dir h n) := by
  induction m generalizing n with
  | zero =>
    obtain rfl : n = 15 := by omega
    exact transformAfter_sixteen rk dir h
  | succ m ih =>
    have hindex : roundIndex back (BitVec.ofNat 4 m) = roundIndex dir (BitVec.ofNat 4 (n + 1)) := by
      rw [hback]
      congr 1
      bv_omega
    rw [transformAfter_succ_of_lt rk back _ (by omega), ih (n := n + 1) (by omega), hindex, mixLeft_mixLeft,
      transformAfter_succ_of_lt rk dir h (by omega), Halves.swap_swap]

theorem transformAfter_back_sixteen (hback : ∀ n, roundIndex back n = roundIndex dir (15 - n)) (rk : RoundKeys)
    (h : Halves) : transformAfter rk back (transformAfter rk dir h 16) 16 = h := by
  rw [transformAfter_sixteen, transformAfter_back hback rk h (n := 0) rfl, hback]
  exact mixLeft_mixLeft rk _ h

theorem transform_back (hback : ∀ n, roundIndex back n = roundIndex dir (15 - n)) (rk : RoundKeys) (block : Block) :
    transform rk (transform rk block dir) back = block := by
  rw [transform, transform, Halves.ofBlock_toBlock, transformAfter_back_sixteen hback, Halves.toBlock_ofBlock]

end Reverse

theorem transform_decrypt_encrypt (rk : RoundKeys) (block : Block) :
    transform rk (transform rk block .encrypt) .decrypt = block :=
  transform_back (dir := .encrypt) (back := .decrypt) (fun _ => rfl) rk block

theorem transform_encrypt_decrypt (rk : RoundKeys) (block : Block) :
    transform rk (transform rk block .decrypt) .encrypt = block :=
  transform_back (dir := .decrypt) (back := .encrypt) (fun n => (sub_sub_cancel 15 n).symm) rk block

end Sys2Proof.Machine
end

section
/-! SUPPORT. A whole transform on the machine (rules R86, R88, R92): the state before each of its rounds, the run through them,
and a command that waits on the port all the while (rules R52, R135). -/

namespace Sys2Proof.Machine

/-! The accept step. -/

theorem startTransform_eq_setHalves (s : State) (dir : Dir) :
    s.startTransform dir =
      State.setHalves { s with dir := dir, rnd := 0, fsm := .cr, rsp := none } (Halves.ofBlock (bytesOfBus s.din)) := by
  rw [Halves.ofBlock_bytesOfBus]
  rfl

theorem exec_transformInstr_of_allowed (dir : Dir) {slen dlen : Len} {s : State} (hl : TransformAllowed slen dlen s) :
    exec (transformInstr dir slen dlen) s = .next (s.startTransform dir) := by
  rw [exec_transformInstr, acceptTransform_of_allowed dir hl]

/-! The rounds. -/

/-- `s` with the transform of `block` running in it, `n` of its rounds done. -/
def inTransform (dir : Dir) (block : Block) (n : Nat) (s : State) : State :=
  State.setHalves { s with dir := dir, rnd := BitVec.ofNat 4 n, fsm := .cr, rsp := none }
    (transformAfter s.rk dir (Halves.ofBlock block) n)

/-- `s` with the transform of `block` done and answered, the engine at rest. -/
def transformed (dir : Dir) (block : Block) (s : State) : State :=
  State.respondOk (State.setHalves { s with dir := dir, rnd := 0, fsm := .idle } ⟨0, 0, 0, 0⟩) 0
    (busOfBytes (transform s.rk block dir))

/-- What the next command finds of the engine, and the answer. -/
theorem fields_of_transformed {dir : Dir} {block : Block} {s t : State} (h : SameEngine t (transformed dir block s)) :
    t.fsm = .idle ∧ t.keyValid = s.keyValid ∧ t.rk = s.rk ∧
      t.rsp = some ⟨.ok, 0, busOfBytes (transform s.rk block dir)⟩ := by
  have hview {α : Type} (view : State → α) : view (engine t) = view (engine (transformed dir block s)) :=
    congrArg view h
  exact ⟨hview State.fsm, hview State.keyValid, hview State.rk, hview State.rsp⟩

/-- A round that is not the last leads from each such state to the next. -/
theorem crRound_inTransform (dir : Dir) (block : Block) (s : State) {n : Nat} (hn : n < 15) :
    (inTransform dir block n s).crRound = inTransform dir block (n + 1) s := by
  have hrnd : (inTransform dir block n s).rnd.toNat < 15 := by simp [inTransform]; omega
  rw [crRound_of_lt _ hrnd]
  simp only [inTransform, transformAfter_succ_of_lt _ _ _ hn, BitVec.ofNat_add]
  rfl

/-- The sixteenth round answers the block of the words that it leaves unswapped. -/
theorem crRound_inTransform_last (dir : Dir) (block : Block) (s : State) :
    (inTransform dir block 15 s).crRound = transformed dir block s := by
  rw [crRound_of_last _ (by simp [inTransform]), transformed, transform, busOfBytes_toBlock, transformAfter_sixteen]
  rfl

theorem engine_crRound (s : State) : engine s.crRound = (engine s).crRound := by
  by_cases h : s.rnd.toNat < 15
  · rw [crRound_of_lt s h, crRound_of_lt (engine s) h]; rfl
  · rw [crRound_of_last s h, crRound_of_last (engine s) h]; rfl

/-- The host has the command `c` on the port. -/
def Presents (c : Command) (s : State) : Prop :=
  s.cmdValid = true ∧ s.cmd = c.word ∧ s.din = c.din

/-- Whatever the host does, a step in `CR` does to the engine what the round does, and leaves a waiting command. -/
theorem step_of_cr_sameEngine {s u : State} (h : SameEngine s u) (hf : u.fsm = .cr) (hr : s.rstAsserted = false) :
    ∃ t, step s = .next t ∧ t.rst = s.rst.tail ∧ SameEngine t u.crRound ∧ ∀ c, Presents c s → Presents c t := by
  have hs : s.fsm = .cr := (congrArg State.fsm h).trans hf
  have hhost : hostSide s.crRound = hostSide s := hostSide_of_carried (carried_crRound s)
  refine ⟨_, step_of_cr hr hs, by simp [rst_of_hostSide hhost], ?_, fun c hc => ?_⟩
  · rw [SameEngine, engine_hostMoves, engine_crRound, engine_crRound, h]
  · obtain ⟨hv, hcmd, hdin⟩ := hc
    obtain ⟨hv', hcmd', hdin', -⟩ := hostMoves_false_presented hhost hv
    exact ⟨hv', hcmd'.trans hcmd, hdin'.trans hdin⟩

/-- The rounds left of a transform, run to its end. -/
theorem run_inTransform (dir : Dir) (block : Block) (u : State) {s : State} {n : Nat} (m k : Nat)
    (h : SameEngine s (inTransform dir block n u)) (hn : n + m = 15) (hr : NoResetFor (m + 1 + k) s) :
    ∃ t, Sys2Proof.core.run (m + 1) s = .next t ∧ NoResetFor k t ∧ SameEngine t (transformed dir block u) ∧
      ∀ c, Presents c s → Presents c t := by
  induction m generalizing s n with
  | zero =>
    obtain rfl : n = 15 := hn
    rw [Nat.zero_add, Nat.add_comm] at hr
    obtain ⟨t, ht, hrst, hround, hwait⟩ := step_of_cr_sameEngine h rfl (rstAsserted_of_noResetFor hr)
    rw [crRound_inTransform_last] at hround
    exact ⟨t, run_succ 0 s t ht, noResetFor_of_tail hr hrst, hround, hwait⟩
  | succ m ih =>
    rw [Nat.succ_add] at hr
    obtain ⟨v, hv, hrst, hround, hwait⟩ := step_of_cr_sameEngine h rfl (rstAsserted_of_noResetFor hr)
    rw [crRound_inTransform dir block u (by omega)] at hround
    obtain ⟨t, ht, hleft, hdone, hwait'⟩ := ih hround (by omega) (noResetFor_of_tail hr hrst)
    exact ⟨t, (run_succ (m + 1) s v hv).trans ht, hleft, hdone, fun c hc => hwait' c (hwait c hc)⟩

/-- The whole command, from the accept step on; the host's next entry, if it is a command, then waits on the port. -/
theorem run_transform {dir : Dir} {slen dlen : Len} {s : State} (k : Nat) (ha : Accepts (transformInstr dir slen dlen) s)
    (hr : NoResetFor (17 + k) s) (hl : TransformAllowed slen dlen s) :
    ∃ t, Sys2Proof.core.run 17 s = .next t ∧ NoResetFor k t ∧ SameEngine t (transformed dir (bytesOfBus s.din) s) ∧
      ∀ c rest, s.pending = some c :: rest → Presents c t := by
  have hstep := step_of_accepts ha (exec_transformInstr_of_allowed dir hl)
  have hbegun : SameEngine ((s.startTransform dir).hostMoves true) (inTransform dir (bytesOfBus s.din) 0 s) := by
    rw [SameEngine, engine_hostMoves, startTransform_eq_setHalves]
    rfl
  rw [Nat.succ_add] at hr
  have hleft : NoResetFor (16 + k) ((s.startTransform dir).hostMoves true) := noResetFor_of_tail hr (by simp)
  obtain ⟨t, ht, hrest, hdone, hwait⟩ := run_inTransform dir (bytesOfBus s.din) s 15 k hbegun rfl hleft
  refine ⟨t, (run_succ 16 s _ hstep).trans ht, hrest, hdone, fun c rest hp => hwait c ?_⟩
  rw [hostMoves_accepted_of_some (s := s.startTransform dir) (by simpa using hp)]
  exact ⟨rfl, rfl, rfl⟩

end Sys2Proof.Machine
end

section
/-! PROOFS. The statements about the transform (42_feistel_transform.md): the round trip of the function, the accept steps of ENC
and DEC, the round step, and the whole commands, one alone and one after the other. -/

namespace Sys2Proof

open Machine

/-- Settles O18: each direction takes the round keys in the reverse of the other's order. -/
theorem transformRoundTrip : Obligations.TransformRoundTrip :=
  fun rk block => ⟨transform_decrypt_encrypt rk block, transform_encrypt_decrypt rk block⟩

/-- Settles O31: both kinds of round are `F` added into Left; the swap, or in the sixteenth the answer, comes after it. -/
theorem feistelRoundStep : Obligations.FeistelRoundStep := by
  intro s i hf hr hi
  obtain rfl : i = roundIndex s.dir s.rnd := hi
  refine ⟨_, step_of_cr hr hf, fun hn => ?_, fun hn out hout => ?_⟩
  · rw [engine_hostMoves, crRound_of_lt s hn]
    rfl
  · rw [engine_hostMoves, crRound_of_last s (by simp [hn]), hout]
    rfl

/-- Settles O51: the accept step begins the transform of the block on the bus, and the run goes through its rounds. -/
theorem transformCommandComputesTransform : Obligations.TransformCommandComputesTransform := by
  rintro dir slen dlen s _ ha hr hl rfl
  obtain ⟨t, ht, -, hdone, -⟩ := run_transform 0 ha hr hl
  exact ⟨t, ht, hdone⟩

/-- Settles O52: after ENC the waiting DEC is accepted with ENC's result on `din`, and its rounds take the result back. -/
theorem encThenDecGivesBlockBack : Obligations.EncThenDecGivesBlockBack := by
  intro slen dlen slen' dlen' s c rest ha hr hl hp hc hsl hdl hdin
  obtain ⟨t, ht, hleft, henc, hwait⟩ := run_transform (dir := .encrypt) 17 ha hr hl
  obtain ⟨hv, hcmd, hbus⟩ := hwait c rest hp
  obtain ⟨hidle, hkey, hrk, -⟩ := fields_of_transformed henc
  have ha' : Accepts (transformInstr .decrypt slen' dlen') t :=
    ⟨⟨rstAsserted_of_noResetFor hleft, hidle, hv⟩, hcmd ▸ hc⟩
  obtain ⟨v, hrun, -, hdec, -⟩ := run_transform 0 ha' hleft ⟨hkey.trans hl.1, hsl, hdl⟩
  obtain ⟨hidle', hkey', hrk', hrsp⟩ := fields_of_transformed hdec
  refine ⟨v, (run_add 17 17 s t ht).trans hrun, ?_, hrk'.trans hrk, (hkey'.trans hkey).trans hl.1, hidle'⟩
  rw [hrsp, hrk, hbus, hdin, bytesOfBus_busOfBytes, transform_decrypt_encrypt, busOfBytes_bytesOfBus]

/-- Settles O23: with no exception ENC's accept step captures the words of the block. -/
theorem encStartsRounds : Obligations.EncStartsRounds := by
  intro slen dlen s hl
  exact (exec_transformInstr_of_allowed .encrypt hl).trans (congrArg _ (startTransform_eq_setHalves s .encrypt))

/-- Settles O24: DEC's accept step is ENC's but for `DIR`. -/
theorem decStartsRounds : Obligations.DecStartsRounds := by
  intro slen dlen s hl
  exact (exec_transformInstr_of_allowed .decrypt hl).trans (congrArg _ (startTransform_eq_setHalves s .decrypt))

end Sys2Proof
end

section
/-! SUPPORT. The opcodes that belong to one word alone (rule R57), the cleared round-key array (rule R102), and what ENC and DEC
do without a key (rule R113). -/

namespace Sys2Proof

/-! The opcodes of BLKSZ and CLR. -/

theorem eq_blksz_of_fieldOp_encode {i : Instr} (h : fieldOp (encode i) = 0x4#4) : i = .blksz := by
  cases i with
  | blksz => rfl
  | keyld | enc | dec | clr => simp [encode, fieldOp_packWord] at h

theorem eq_clr_of_fieldOp_encode {i : Instr} (h : fieldOp (encode i) = 0x5#4) : i = .clr := by
  cases i with
  | clr => rfl
  | keyld | enc | dec | blksz => simp [encode, fieldOp_packWord] at h

/-- Where one command alone has the opcode `op`, its word is the only one with that opcode that is not reserved. -/
theorem exists_reserved_of_ne_encode {op : BitVec 4} {i : Instr} (honly : ∀ {j}, fieldOp (encode j) = op → j = i)
    {w : Word} (hop : fieldOp w = op) (hne : w ≠ encode i) : ∃ why, decode w = .reserved why := by
  cases hd : decode w with
  | command j =>
    obtain rfl : encode j = w := encode_of_decode hd
    exact absurd (congrArg encode (honly hop)) hne
  | reserved why => exact ⟨why, rfl⟩

end Sys2Proof

namespace Sys2Proof.Machine

@[simp] theorem rkRead_replicate (v : Word) (j : BitVec 5) : rkRead (Vector.replicate 32 v) j = v :=
  Vector.getElem_replicate ..

/-- Without a key both directions raise NoKey, whatever the lengths: its check is the first (rule R118). -/
theorem exec_transformInstr_of_no_key {s : State} (hk : s.keyValid = false) (dir : Dir) (slen dlen : Len) :
    exec (transformInstr dir slen dlen) s = .next (s.raiseFatal .fatalNoKey 0) := by
  rw [exec_transformInstr, State.acceptTransform, if_pos hk]

/-- The sixteenth key-schedule round answers OK. -/
theorem rsp_of_last_schedule_round {s t : State} (hr : s.rstAsserted = false) (hf : s.fsm = .ks) (hn : s.rnd = 15)
    (h : step s = .next t) : t.rsp = some ⟨.ok, 0, 0⟩ := by
  cases (step_of_ks hr hf).symm.trans h
  rw [hostMoves_rsp, ksRound_rsp, hn, if_neg (by decide)]

end Sys2Proof.Machine
end

section
/-! PROOFS. The statements about the host commands (43_host_commands.md): BLKSZ and CLR. -/

namespace Sys2Proof

open Machine

/-- Settles O26: the answer is BLKSZ's whole effect, and no other command has its opcode. -/
theorem blkszAnswersSixteen : Obligations.BlkszAnswersSixteen :=
  ⟨fun _ => ⟨rfl, rfl⟩, by decide, fun _ => exists_reserved_of_ne_encode eq_blksz_of_fieldOp_encode⟩

/-- Settles O27: CLR leaves no key, NoKey is the first check of ENC and DEC, and of all steps only the sixteenth round of a
KEYLD sets the flag. -/
theorem clrZeroesRoundKeys : Obligations.ClrZeroesRoundKeys := by
  refine ⟨fun s => ⟨_, rfl, rkRead_replicate 0, rfl, rfl, rfl, rfl, exec_transformInstr_of_no_key rfl⟩,
    fun u dir slen dlen hk => exec_transformInstr_of_no_key hk dir slen dlen, fun u v hk h => ?_, by decide,
    fun _ => exists_reserved_of_ne_encode eq_clr_of_fieldOp_encode⟩
  cases hv : v.keyValid with
  | false => exact .inl rfl
  | true =>
    obtain ⟨hset, -⟩ := keyValidWriters u v h (by simp [hk, hv])
    obtain ⟨hr, hf, hn, hidle⟩ := hset hv
    exact .inr ⟨hf, hn, hr, hidle, rsp_of_last_schedule_round hr hf hn h⟩

end Sys2Proof
end

section
/-! SUPPORT. The exceptions (rules R110 to R120): the checks of ENC and DEC past NoKey, and that a step enters `FATAL` only
by raising an exception of the fatal class, over all the kinds of step. -/

namespace Sys2Proof.Machine

variable {s u : State}

/-- With a key a short source is the first exception of both directions (rules R116, R118). -/
theorem exec_transformInstr_of_short_source {slen : Len} (hk : s.keyValid = true) (hs : slen < 16#12) (dir : Dir)
    (dlen : Len) : exec (transformInstr dir slen dlen) s = .next (s.raiseFatal .fatalShortInput slen) := by
  rw [exec_transformInstr, State.acceptTransform, if_neg (by simp [hk]), if_pos hs]

/-- A short destination is the last exception of both directions (rules R114, R118). -/
theorem exec_transformInstr_of_short_destination {slen dlen : Len} (hk : s.keyValid = true) (hs : 16#12 ≤ slen)
    (hd : dlen < 16#12) (dir : Dir) :
    exec (transformInstr dir slen dlen) s = .next (s.raiseFatal .fatalShortOutput dlen) := by
  rw [exec_transformInstr, State.acceptTransform, if_neg (by simp [hk]), if_neg (BitVec.not_lt.mpr hs), if_pos hd]

/-- KEYLD with a wrong length takes the recoverable exception its membership in UNSUPPORTED_KEY_LENS names (rule R118). -/
theorem exec_keyld_of_ne_sixteen {len : Len} (h16 : len ≠ 16#12) :
    exec (.keyld len) s = .next (s.raiseRecoverable
      (if len ∈ s.params.unsupportedKeyLens then .errKeySizeUnsupported else .errKeySize) len) := by
  by_cases h : len ∈ s.params.unsupportedKeyLens
  · rw [if_pos h, exec_keyld_of_unsupported h]
  · rw [if_neg h, exec_keyld_of_wrong_length h h16]

/-- `FATAL` is entered by raising an exception of the fatal class and in no other way (rule R119). -/
theorem raiseFatal_of_engineStep (h : EngineStep s u) (hs : s.fsm ≠ .fatal) (hu : u.fsm = .fatal) :
    ∃ code info, code.isFatal = true ∧ u = s.raiseFatal code info := by
  cases h with
  | illegal => exact ⟨.fatalIllegalCmd, 0, rfl, rfl⟩
  | transformRejected _ _ _ hc => exact ⟨_, _, hc, rfl⟩
  | waitInFatal _ hf => exact absurd hf hs
  | ksRound _ hf => rw [ksRound_fsm, hf] at hu; split_ifs at hu
  | crRound _ hf => rw [crRound_fsm, hf] at hu; split_ifs at hu
  | idle | keyldUnsupported | keyldWrongLength | blksz | clr => exact absurd hu hs
  | reset | keyldStarted | transformStarted => cases hu

end Sys2Proof.Machine
end

section
/-! PROOFS. The statements about the exceptions (60_exceptions.md): the codes, the fatal exceptions of ENC and DEC, the entry
into `FATAL`, a wrong key length, and `IDLE` without a command. -/

namespace Sys2Proof

open Machine

/-- Settles O25: the three checks in their order, each raising its own exception. -/
theorem transformFatalExceptions : Obligations.TransformFatalExceptions :=
  fun dir slen dlen _ =>
    ⟨fun hk => exec_transformInstr_of_no_key hk dir slen dlen,
      fun hk hs => exec_transformInstr_of_short_source hk hs dir dlen,
      fun hk hs hd => exec_transformInstr_of_short_destination hk hs hd dir⟩

/-- Settles O38: the step raises a fatal exception, and the host's move leaves the engine and its `STATUS`. -/
theorem fatalEntryWritesCauseAlone : Obligations.FatalEntryWritesCauseAlone := by
  intro s t h hs ht
  obtain ⟨u, accepted, hu, rfl⟩ := engineStep_of_step h
  rw [hostMoves_fsm] at ht
  obtain ⟨code, info, hc, rfl⟩ := raiseFatal_of_engineStep hu hs ht
  obtain ⟨-, -, hfatal, -, hcause⟩ := statusVectorBits ((s.raiseFatal code info).hostMoves accepted)
  exact ⟨code, info, hc, engine_hostMoves _ accepted, by simp [State.cmdReady], hfatal.mpr (by simp),
    hcause.trans (by simp)⟩

/-- Settles O39: the response is the accept step's whole effect, so the engine is in `IDLE` still. -/
theorem wrongKeyLengthIsRecoverable : Obligations.WrongKeyLengthIsRecoverable := by
  intro len s ha h16
  obtain ⟨-, hidle, -⟩ := ha.1
  exact ⟨_, _, step_of_accepts ha (exec_keyld_of_ne_sixteen h16), rfl, engine_hostMoves _ true,
    by simp [State.cmdReady, hidle]⟩

/-- Settles O36: the equation of the step in `IDLE`; the host's move leaves the engine. -/
theorem idleKeepsState : Obligations.IdleKeepsState :=
  fun s hf hv hr => ⟨_, step_of_idle hr hf hv, engine_hostMoves s.noResponse false⟩

/-- Settles O40: bit 3 is compared with the class code by code. -/
theorem responseCodeNumbers : Obligations.ResponseCodeNumbers :=
  ⟨rfl, rfl, rfl, rfl, rfl, rfl, rfl, fun c => by cases c <;> rfl⟩

end Sys2Proof
end

section
/-! SUPPORT. The state after reset (rules R22, R130), and the sequencer's course (rule R141): what is left of a state when every
register that holds data is erased, and that a step makes the same of it whatever `din`, `RK` and the working registers hold. -/

namespace Sys2Proof.Machine

/-! After reset. -/

theorem afterReset_resetEvent (s : State) : AfterReset s.resetEvent :=
  ⟨rfl, rfl, rfl, rfl, rfl, rfl, rfl⟩

theorem status_of_afterReset {s : State} (h : AfterReset s) : s.status = 0x00 := by
  obtain ⟨hf, -, -, hk, hc, -⟩ := h
  simp only [State.status, State.busy, hf, hk, hc]
  rfl

/-! What an outcome was before `mapNext`, and the register a key-schedule round leaves. -/

theorem eq_next_of_mapNext {k : State → State} {o : Host.Outcome State Fault Refusal} {t : State}
    (h : mapNext k o = .next t) : ∃ v, o = .next v ∧ k v = t := by
  cases o with
  | next v => exact ⟨v, rfl, by simpa [mapNext] using h⟩
  | fault | refused => simp [mapNext] at h

theorem eq_fault_of_mapNext {k : State → State} {o : Host.Outcome State Fault Refusal} {e : Fault}
    (h : mapNext k o = .fault e) : o = .fault e := by
  cases o with
  | fault => exact h
  | next | refused => simp [mapNext] at h

@[simp] theorem ksRound_dir (s : State) : s.ksRound.dir = s.dir := by
  unfold State.ksRound; split_ifs <;> rfl

/-! The course. -/

/-- The sequencer's registers, the flag, the cause, and the response but for its block; everything else erased. -/
def course (s : State) : State :=
  { State.reset with
    fsm := s.fsm
    rnd := s.rnd
    dir := s.dir
    keyValid := s.keyValid
    fatalCause := s.fatalCause
    rsp := s.rsp.map ({ · with dout := 0 }) }

theorem rspCode_course (s : State) : (course s).rspCode = s.rspCode := by
  simp [State.rspCode, course, Function.comp_def]

theorem rspInfo_course (s : State) : (course s).rspInfo = s.rspInfo := by
  unfold State.rspInfo course
  cases s.rsp <;> rfl

theorem fields_of_course_eq {t v : State} (h : course t = course v) :
    t.fsm = v.fsm ∧ t.rnd = v.rnd ∧ t.dir = v.dir ∧ t.keyValid = v.keyValid ∧ t.fatalCause = v.fatalCause ∧
      t.rspCode = v.rspCode ∧ t.rspInfo = v.rspInfo := by
  have hview {α : Type} (view : State → α) : view (course t) = view (course v) := congrArg view h
  refine ⟨hview State.fsm, hview State.rnd, hview State.dir, hview State.keyValid, hview State.fatalCause, ?_, ?_⟩
  · rw [← rspCode_course, h, rspCode_course]
  · rw [← rspInfo_course, h, rspInfo_course]

@[simp] theorem course_hostMoves (s : State) (accepted : Bool) : course (s.hostMoves accepted) = course s := by
  simp [course]

theorem mapNext_course_hostMoves (accepted : Bool) (o : Host.Outcome State Fault Refusal) :
    mapNext course (mapNext (fun t => t.hostMoves accepted) o) = mapNext course o := by
  cases o <;> simp [mapNext]

/-! The same state over other data. -/

/-- The state with another block on `din`, other round keys and other working registers. -/
def withData (din : Bus) (rk : RoundKeys) (k : KeyRegs) (h : Halves) (s : State) : State :=
  State.setHalves (State.setKeyRegs { s with din := din, rk := rk } k) h

section

variable (din : Bus) (rk : RoundKeys) (k : KeyRegs) (h : Halves) (s : State)

theorem course_ksRound_withData : course (withData din rk k h s).ksRound = course s.ksRound := by
  by_cases hn : s.rnd.toNat < 15 <;>
    simp [course, withData, ksRound_fsm, ksRound_rnd, ksRound_keyValid, ksRound_rsp, hn]

/-- The last Feistel round answers a block of the data, which is all that differs. -/
theorem course_crRound_withData : course (withData din rk k h s).crRound = course s.crRound := by
  by_cases hn : s.rnd.toNat < 15 <;>
    simp [course, withData, crRound_fsm, crRound_rnd, crRound_rsp, hn]

theorem course_acceptTransform_withData (dir : Dir) (slen dlen : Len) :
    course ((withData din rk k h s).acceptTransform dir slen dlen) = course (s.acceptTransform dir slen dlen) := by
  by_cases hl : TransformAllowed slen dlen s
  · rw [acceptTransform_of_allowed dir hl, acceptTransform_of_allowed (s := withData din rk k h s) dir hl]
    rfl
  · obtain ⟨code, info, -, hraise⟩ := acceptTransform_of_not_allowed dir hl
    rw [hraise s rfl, hraise (withData din rk k h s) rfl]
    rfl

/-- The checks of an accept step read the lengths, the parameters and `KEY_VALID`, and no data. -/
theorem exec_withData (i : Instr) : mapNext course (exec i (withData din rk k h s)) = mapNext course (exec i s) := by
  cases i with
  | keyld len =>
    obtain ⟨hl, he⟩ | ⟨hl, h16, he⟩ | ⟨hl, rfl, he⟩ := execKeyld_cases len s <;> rw [he]
    · rw [exec_keyld_of_unsupported (s := withData din rk k h s) hl]; rfl
    · rw [exec_keyld_of_wrong_length (s := withData din rk k h s) hl h16]; rfl
    · rw [exec_keyld_of_sixteen (s := withData din rk k h s) hl]; simp [mapNext, course, withData]
  | enc slen dlen => exact congrArg Host.Outcome.next (course_acceptTransform_withData din rk k h s .encrypt slen dlen)
  | dec slen dlen => exact congrArg Host.Outcome.next (course_acceptTransform_withData din rk k h s .decrypt slen dlen)
  | blksz => rfl
  | clr => rfl

theorem acceptStep_withData :
    mapNext course (acceptStep (withData din rk k h s)) = mapNext course (acceptStep s) := by
  cases hd : decode s.cmd with
  | command i =>
    rw [acceptStep_of_command hd, acceptStep_of_command (s := withData din rk k h s) hd, exec_withData]
  | reserved why =>
    rw [acceptStep_of_reserved hd, acceptStep_of_reserved (s := withData din rk k h s) hd]
    rfl

/-- Every step takes the same course over other data, the fault of a step in `FATAL` with no reset to come included. -/
theorem step_withData : mapNext course (step (withData din rk k h s)) = mapNext course (step s) := by
  let u := withData din rk k h s
  have alike {t v : State} (hs : step s = .next (t.hostMoves false)) (hu : step u = .next (v.hostMoves false))
      (hcourse : course v = course t) : mapNext course (step u) = mapNext course (step s) := by
    rw [hs, hu, mapNext, mapNext, course_hostMoves, course_hostMoves, hcourse]
  cases hr : s.rstAsserted with
  | true => exact alike (step_of_rst hr) (step_of_rst (s := u) hr) rfl
  | false =>
    cases hf : s.fsm with
    | ks => exact alike (step_of_ks hr hf) (step_of_ks (s := u) hr hf) (course_ksRound_withData din rk k h s)
    | cr => exact alike (step_of_cr hr hf) (step_of_cr (s := u) hr hf) (course_crRound_withData din rk k h s)
    | fatal =>
      cases hc : s.resetToCome with
      | true => exact alike (step_of_fatal_waiting hr hf hc) (step_of_fatal_waiting (s := u) hr hf hc) rfl
      | false => rw [step_of_fatal_stuck hr hf hc, step_of_fatal_stuck (s := u) hr hf hc]
    | idle =>
      cases hv : s.cmdValid with
      | false => exact alike (step_of_idle hr hf hv) (step_of_idle (s := u) hr hf hv) rfl
      | true =>
        have ha : AcceptsWord s := ⟨hr, hf, hv⟩
        rw [step_of_acceptsWord ha, step_of_acceptsWord (s := u) ha, mapNext_course_hostMoves,
          mapNext_course_hostMoves, acceptStep_withData]

end

end Sys2Proof.Machine
end

section
/-! PROOFS. The statements about reset and the hazards (70_reset_and_hazards.md): reset in any state, the course of the
sequencer over other data, and that a step stops in `FATAL` alone. -/

namespace Sys2Proof

open Machine

/-- Settles O21: the host's move after the reset event leaves the registers and the empty response port. -/
theorem resetAbandonsEverything : Obligations.ResetAbandonsEverything := by
  intro s hr
  have hafter : AfterReset (s.resetEvent.hostMoves false) := by
    simpa [AfterReset] using afterReset_resetEvent s
  exact ⟨_, step_of_rst hr, hafter, by simp [State.cmdReady], by simp [State.rspValid], by simp [State.dout],
    status_of_afterReset hafter, by simp⟩

/-- Settles O46: the steps agree in their course, so both answer a next state or neither does. -/
theorem controlIgnoresData : Obligations.ControlIgnoresData := by
  rintro s u din rk k h rfl
  have hsame := step_withData din rk k h s
  obtain ⟨t, ht⟩ | ⟨-, -, hstuck⟩ := step_next_or_stuck s
  · rw [ht] at hsame
    obtain ⟨v, hv, hcourse⟩ := eq_next_of_mapNext hsame
    exact .inr ⟨t, v, ht, hv, fields_of_course_eq hcourse.symm⟩
  · rw [hstuck] at hsame
    exact .inl ⟨hstuck, eq_fault_of_mapNext hsame⟩

/-- Settles O35: the one step without a next state is the fault in `FATAL` with `rst` not asserted, which is no refusal. -/
theorem stepStopsOnlyInFatal : Obligations.StepStopsOnlyInFatal := by
  intro s
  obtain ⟨t, ht⟩ | ⟨hf, hr, hstuck⟩ := step_next_or_stuck s
  · exact ⟨fun _ => ⟨t, ht⟩, by simp [ht]⟩
  · exact ⟨fun h => by simp [hf, hr] at h, by simp [hstuck]⟩

end Sys2Proof
end

section
/-! PROOFS. The statements about the published vectors (95_test_vectors.md): the encryptions are evaluated, the decryptions
follow by the round-trip law (rule R94). -/

namespace Sys2Proof

open Machine

/-- A known answer of ENC is one of DEC too: the block on the output bus is the one that DEC takes back. -/
theorem vectorHolds_of_encrypt {key plain cipher : Bus}
    (h : busOfBytes (transform (keySchedule (bytesOfBus key)) (bytesOfBus plain) .encrypt) = cipher) :
    VectorHolds key plain cipher := by
  refine ⟨h, ?_⟩
  rw [← h, bytesOfBus_busOfBytes, transform_decrypt_encrypt, busOfBytes_bytesOfBus]

/-- Settles O19: each vector's encryption is evaluated by the kernel, and `vectorHolds_of_encrypt` gives the way back. -/
theorem publishedVectorsReproduced : Obligations.PublishedVectorsReproduced :=
  ⟨vectorHolds_of_encrypt (by decide +kernel), vectorHolds_of_encrypt (by decide +kernel),
    vectorHolds_of_encrypt (by decide +kernel), vectorHolds_of_encrypt (by decide +kernel)⟩

end Sys2Proof
end
